-- ==== Sys2Proof/Word.lean ====
section
/-! DEFINITION. Bytes, words and host addresses (spec R6, R9, R60). -/

namespace Sys2Proof

/-- "8-bit unsigned unit" (R6, R16). -/
abbrev Byte := BitVec 8

/-- "32-bit unsigned value" (R6, R16). -/
abbrev Word := BitVec 32

/-- A host byte address, `0x000..0x3FF` (R60). Ten bits, so an address beyond the bus does not exist (R83, log 11). -/
abbrev Addr := BitVec 10

end Sys2Proof
end

