-- ==== Sys2Proof/Config.lean ====
section
/-! DEFINITION. What the spec leaves open: the contents of the data registers after a reset, and nothing else (R7, R45). -/

namespace Sys2Proof

/-- One draw: the contents the nine data registers hold after a reset. The spec leaves them unspecified and has a
model take "each as a free draw at reset" (R45, R301, D17). A draw is an input of the model: a claim about every
draw is a claim about every initial content. (DESIGN CHOICE, log 4.) -/
structure Draw where
  key   : Vector Byte 16
  din   : Vector Byte 16
  dout  : Vector Byte 16
  gfIn  : Byte
  gfOut : Byte
  msg   : Vector Byte 64
  h     : Vector Word 8
  rk    : Vector Word 44
  w     : Vector Word 64
deriving DecidableEq, Repr

/-- The draw of all zeros, which `State.reset` holds. The spec gives no reset value for these registers.
(DESIGN CHOICE, unsafe, log 3.) -/
def Config.zeroDraw : Draw where
  key   := Vector.replicate 16 0
  din   := Vector.replicate 16 0
  dout  := Vector.replicate 16 0
  gfIn  := 0
  gfOut := 0
  msg   := Vector.replicate 64 0
  h     := Vector.replicate 8 0
  rk    := Vector.replicate 44 0
  w     := Vector.replicate 64 0

end Sys2Proof
end

