-- ==== Sys2Proof/Syntax.lean ====
section
/-! DEFINITION. The commands: one constructor per row of spec/opcode_table.json (R94). -/

namespace Sys2Proof

/-- A valid command (R93, R94). Operands are implicit registers; the one immediate, the constant of GFMUL, takes one
of seven values and each is a row of its own (R92). -/
inductive Instr where
  /-- GFMUL.01, byte 0x11 (R132) -/
  | gfmul01
  /-- GFMUL.02, byte 0x12 (R133) -/
  | gfmul02
  /-- GFMUL.03, byte 0x13 (R134) -/
  | gfmul03
  /-- GFMUL.09, byte 0x19 (R135) -/
  | gfmul09
  /-- GFMUL.0B, byte 0x1B (R136) -/
  | gfmul0B
  /-- GFMUL.0D, byte 0x1D (R137) -/
  | gfmul0D
  /-- GFMUL.0E, byte 0x1E (R138) -/
  | gfmul0E
  /-- KEYEXP, byte 0x20 (R157) -/
  | keyexp
  /-- AES_ENC, byte 0x30 (R176) -/
  | aesEnc
  /-- AES_DEC, byte 0x40 (R194) -/
  | aesDec
  /-- SHA_INIT, byte 0x50 (R218) -/
  | shaInit
  /-- SHA_SCHED, byte 0x60 (R219) -/
  | shaSched
  /-- SHA_COMP, byte 0x70 (R220) -/
  | shaComp
  /-- SHA_BLOCK, byte 0x80 (R221) -/
  | shaBlock
deriving DecidableEq, Repr

/-- The raw fields of a command word in format C8: `OPC` = bits [7:4], `FN` = bits [3:0] (R90). -/
structure CommandWord where
  opc : BitVec 4
  fn  : BitVec 4
deriving DecidableEq, Repr

end Sys2Proof
end

