-- ==== Sys2Proof/WellFormed.lean ====
section
/-! DEFINITION. Which command words are well formed (R93, R94). A command has no operand, so every `Instr` is; the
checks concern the raw fields. -/

namespace Sys2Proof

/-- The operation codes the opcode map assigns (R93): 0x1 to 0x8. -/
def CommandWord.opcDefined (c : CommandWord) : Bool :=
  decide (c.opc ∈ [0x1#4, 0x2#4, 0x3#4, 0x4#4, 0x5#4, 0x6#4, 0x7#4, 0x8#4])

/-- The closed set of multiplier constants, as FN values (R92, R131). -/
def CommandWord.gfConstants : List (BitVec 4) :=
  [0x1#4, 0x2#4, 0x3#4, 0x9#4, 0xB#4, 0xD#4, 0xE#4]

/-- The legal FN values of an operation code (R93): the seven constants for OPC 0x1, zero for the others. -/
def CommandWord.fnLegal (c : CommandWord) : Bool :=
  if c.opc = 0x1#4 then decide (c.fn ∈ CommandWord.gfConstants) else decide (c.fn = 0x0#4)

/-- A command word the core executes (R94). -/
def CommandWord.wf (c : CommandWord) : Bool :=
  c.opcDefined && c.fnLegal

/-- A command carries no operand that a check could refuse (R92). -/
def Instr.wf : Instr → Bool
  | .gfmul01 | .gfmul02 | .gfmul03 | .gfmul09 | .gfmul0B | .gfmul0D | .gfmul0E => true
  | .keyexp | .aesEnc | .aesDec => true
  | .shaInit | .shaSched | .shaComp | .shaBlock => true

end Sys2Proof
end

