-- ==== Sys2Proof/Decode.lean ====
section
/-! DEFINITION. The decoder, total on the 256 command bytes and rejecting by name (R95, R96), and the encoder (R94). -/

namespace Sys2Proof

/-- The command errors (R272). The first two are the decoder's. -/
inductive CmdError where
  /-- ILLEGAL_CMD: reserved OPC, or nonzero FN with OPC 0x2 to 0x8 (R273) -/
  | illegalCmd
  /-- GF_CONST: GFMUL with a constant outside the seven (R274) -/
  | gfConst
  /-- NO_SCHEDULE: SHA_COMP with W_VALID = 0 (R275) -/
  | noSchedule
  /-- NO_HASH_STATE: SHA_COMP or SHA_BLOCK with H_VALID = 0 (R277) -/
  | noHashState
deriving DecidableEq, Repr

/-- The fields of a command byte (R90). -/
def CommandWord.ofByte (v : Byte) : CommandWord where
  opc := v.extractLsb' 4 4
  fn  := v.extractLsb' 0 4

/-- The byte of a command word's fields (R90). -/
def CommandWord.toByte (c : CommandWord) : Byte :=
  c.opc ++ c.fn

/-- GFMUL's part of the decoder: FN in the closed set, else GF_CONST (R95, R139). -/
def decodeGfmul (fn : BitVec 4) : Except CmdError Instr :=
  if fn = 0x1#4 then .ok .gfmul01
  else if fn = 0x2#4 then .ok .gfmul02
  else if fn = 0x3#4 then .ok .gfmul03
  else if fn = 0x9#4 then .ok .gfmul09
  else if fn = 0xB#4 then .ok .gfmul0B
  else if fn = 0xD#4 then .ok .gfmul0D
  else if fn = 0xE#4 then .ok .gfmul0E
  else .error .gfConst

/-- An operation code other than GFMUL's takes FN = 0 only (R95). -/
def decodePlain (i : Instr) (fn : BitVec 4) : Except CmdError Instr :=
  if fn = 0x0#4 then .ok i else .error .illegalCmd

/-- Decoding of the fields of a command word (R93, R95). -/
def decodeFields (c : CommandWord) : Except CmdError Instr :=
  if c.opc = 0x1#4 then decodeGfmul c.fn
  else if c.opc = 0x2#4 then decodePlain .keyexp c.fn
  else if c.opc = 0x3#4 then decodePlain .aesEnc c.fn
  else if c.opc = 0x4#4 then decodePlain .aesDec c.fn
  else if c.opc = 0x5#4 then decodePlain .shaInit c.fn
  else if c.opc = 0x6#4 then decodePlain .shaSched c.fn
  else if c.opc = 0x7#4 then decodePlain .shaComp c.fn
  else if c.opc = 0x8#4 then decodePlain .shaBlock c.fn
  else .error .illegalCmd

/-- Decoding of command byte `v`, "performed on every host write to `CMD`" (R95). -/
def decode (v : Byte) : Except CmdError Instr :=
  decodeFields (CommandWord.ofByte v)

/-- The fields of a command's word, the table of R94. -/
def encodeFields : Instr → CommandWord
  | .gfmul01  => ⟨0x1, 0x1⟩
  | .gfmul02  => ⟨0x1, 0x2⟩
  | .gfmul03  => ⟨0x1, 0x3⟩
  | .gfmul09  => ⟨0x1, 0x9⟩
  | .gfmul0B  => ⟨0x1, 0xB⟩
  | .gfmul0D  => ⟨0x1, 0xD⟩
  | .gfmul0E  => ⟨0x1, 0xE⟩
  | .keyexp   => ⟨0x2, 0x0⟩
  | .aesEnc   => ⟨0x3, 0x0⟩
  | .aesDec   => ⟨0x4, 0x0⟩
  | .shaInit  => ⟨0x5, 0x0⟩
  | .shaSched => ⟨0x6, 0x0⟩
  | .shaComp  => ⟨0x7, 0x0⟩
  | .shaBlock => ⟨0x8, 0x0⟩

/-- The command byte of a command: "exactly one byte" (R91, R94). -/
def encode (i : Instr) : Byte :=
  (encodeFields i).toByte

/-- The one byte of a table word of `nbits` bits: bits above `nbits` are zero, and a command never needs more than its
first byte (R91, log 9). -/
def tableByte (nbits w : Nat) : Byte :=
  BitVec.ofNat 8 (w % 2 ^ nbits)

/-- The command the decoder reads from a word numbered as spec/opcode_table.json numbers it. -/
def decodeTableWord (nbits w : Nat) : Option Instr :=
  match decode (tableByte nbits w) with
  | .ok i    => some i
  | .error _ => none

end Sys2Proof
end

