-- ==== Sys2Proof/Machine/State.lean ====
section
/-! DEFINITION. The state of the core as plain data, the host's events, and the state after reset (R20, R21, R301). -/

namespace Sys2Proof.Machine

/-- The reasons the machine could stop with a fault. There is none: "The core raises no trap and takes no exception"
(R270); a command error is a next state with `STATUS.ERR` written (R271, log 12). -/
inductive Fault where
deriving DecidableEq, Repr

/-- The reasons the model could have no meaning for an instruction. -/
inductive Refusal where
  /-- Raised by an arm of `exec` for a command without a meaning, and by nothing else. Every command of this core has
  its meaning, so no arm raises it. Safe: it stops where the hardware goes on. -/
  | notModelled (mnemonic : String)
deriving DecidableEq, Repr

/-- The fields of the register `STATUS` (R33). Bits [7:6] read as 0 and nothing writes them, so they have no storage
(DESIGN CHOICE, log 6). -/
@[ext]
structure Status where
  /-- `ERR`, bits [2:0]: the outcome of the most recent command -/
  err     : BitVec 3
  /-- `RK_VALID`, bit [3] -/
  rkValid : Bool
  /-- `W_VALID`, bit [4] -/
  wValid  : Bool
  /-- `H_VALID`, bit [5] -/
  hValid  : Bool
deriving DecidableEq, Repr

/-- What the outside world can do to the core: a host transaction of one byte (R62), or the reset input (R300). -/
inductive HostEvent where
  /-- `MemRead(a, 1)` (R11, R62) -/
  | read (a : Addr)
  /-- `MemWrite(a, 1, v)` (R11, R62) -/
  | write (a : Addr) (v : Byte)
  /-- `rst_n` is held low between transactions and released; the data registers then hold the draw `d` (R300, R301) -/
  | reset (d : Draw)
  /-- `rst_n` is held low while the write of `v` to `a` is in progress and then released (R302) -/
  | resetDuring (a : Addr) (v : Byte) (d : Draw)
deriving DecidableEq, Repr

/-- The core's state record: "exactly" what R21 lists, the constant tables being definitions (log 7). It holds neither a
command word nor a host program, message, digest or trace (R52). -/
@[ext]
structure CoreState where
  /-- `KEY[0..15]`, the AES key (R24) -/
  key     : Vector Byte 16
  /-- `DIN[0..15]`, the AES input block (R25) -/
  din     : Vector Byte 16
  /-- `DOUT[0..15]`, the AES output block (R28) -/
  dout    : Vector Byte 16
  /-- `GF_IN`, the operand of the multiplier (R27) -/
  gfIn    : Byte
  /-- `GF_OUT`, the result of the last successful GFMUL (R29) -/
  gfOut   : Byte
  /-- `STATUS` (R33) -/
  status  : Status
  /-- `MSG[0..63]`, one SHA-256 message block (R26) -/
  msg     : Vector Byte 64
  /-- `H[0..7]`, the hash state (R32) -/
  h       : Vector Word 8
  /-- `RK[0..43]`, the key schedule (R30) -/
  rk      : Vector Word 44
  /-- `W[0..63]`, the message schedule (R31) -/
  w       : Vector Word 64
deriving DecidableEq, Repr

/-- What a step maps to what: the core, and beside it what the host puts on the bus and gets from it. The two fields added
here are the model's own and no state of the core (R52): the type of a step leaves no other place for its input. -/
@[ext]
structure State extends CoreState where
  /-- The model's own (log 1): the host's transactions and resets still to come, oldest first (R77). -/
  pending : List HostEvent
  /-- The model's own (log 2): the byte the host's last event read, `none` when that event was no read (R62, R85). -/
  rdata   : Option Byte
deriving DecidableEq, Repr

/-- `STATUS` after reset: 0x00 (R301). -/
def Status.reset : Status where
  err     := 0
  rkValid := false
  wValid  := false
  hValid  := false

/-- The state after a reset whose draw is `d`, with the events `pending` still to come (R301). -/
def State.resetWith (d : Draw) (pending : List HostEvent) : State where
  key     := d.key
  din     := d.din
  dout    := d.dout
  gfIn    := d.gfIn
  gfOut   := d.gfOut
  status  := Status.reset
  msg     := d.msg
  h       := d.h
  rk      := d.rk
  w       := d.w
  pending := pending
  rdata   := none

/-- The machine right after reset (R301). `STATUS` is 0x00; the data registers hold zeros, where the spec gives no
value (DESIGN CHOICE, unsafe, log 3); nothing is pending (log 1). -/
def State.reset : State :=
  State.resetWith Config.zeroDraw []

end Sys2Proof.Machine
end

