-- ==== Sys2Proof/Machine/Operands.lean ====
section
/-! DEFINITION. Operand forms: the packer and the unpacker, the AES state load and store, the round-key byte
(spec/40_packer.md R110 to R117). -/

namespace Sys2Proof.Machine

/-- `pack_be`: four bytes to one word, first byte most significant (R110). -/
def packBe (b0 b1 b2 b3 : Byte) : Word :=
  (b0.setWidth 32 <<< 24) ||| (b1.setWidth 32 <<< 16) ||| (b2.setWidth 32 <<< 8) ||| b3.setWidth 32

/-- `unpack_be`: one word to four bytes, most significant first (R112). -/
def unpackBe (x : Word) : Vector Byte 4 :=
  #v[x.extractLsb' 24 8, x.extractLsb' 16 8, x.extractLsb' 8 8, x.extractLsb' 0 8]

/-- Word `i` of a byte array (R111). -/
def packedWord {n : Nat} (xs : Vector Byte n) (i : Nat) (hi : 4 * i + 3 < n) : Word :=
  packBe xs[4 * i] xs[4 * i + 1] xs[4 * i + 2] xs[4 * i + 3]

/-- The internal 4×4 AES state, row by row: `S[r][c]` is row `r`, column `c` (R10, R41). A local value of AES_ENC and
AES_DEC, not state of the core. -/
abbrev AesState := Vector (Vector Byte 4) 4

/-- The AES state whose row `r`, column `c` is `f r c`. Irreducible for the elaborator, which would otherwise unroll the
sixteen entries in many a comparison; its lemmas are in Laws/Aes.lean. -/
@[irreducible] def AesState.ofFn (f : Fin 4 → Fin 4 → Byte) : AesState :=
  Vector.ofFn fun r => Vector.ofFn fun c => f r c

/-- `load_state`: `S[i mod 4][i div 4] <- X[i]`, column-major (R115). -/
def loadState (x : Vector Byte 16) : AesState :=
  AesState.ofFn fun r c => x[4 * c.val + r.val]

/-- `store_state`: `Y[i] <- S[i mod 4][i div 4]` (R116). Irreducible for the elaborator, as `AesState.ofFn` is. -/
@[irreducible] def storeState (s : AesState) : Vector Byte 16 :=
  Vector.ofFn fun i => s[i.val % 4][i.val / 4]

/-- `rk_byte(r, row, col)`: byte `row` of word `col` of round-key slice `r` (R30, R117). -/
def rkByte (rk : Vector Word 44) (r : Fin 11) (row col : Fin 4) : Byte :=
  (unpackBe rk[4 * r.val + col.val])[row]

/-- Byte `i` of the view of a word register file: byte `i mod 4` of word `i div 4` (R68, R69, R70). -/
def viewByte {n : Nat} (ws : Vector Word n) (i : Nat) (hi : i < 4 * n) : Byte :=
  (unpackBe ws[i / 4])[i % 4]

end Sys2Proof.Machine
end

