-- ==== Sys2Proof/Machine/Flags.lean ====
section
/-! DEFINITION. `STATUS`: its codes, the byte the host reads, and how a command changes it (R33, R34, R37, R272). The
core has no arithmetic flag (R37). -/

namespace Sys2Proof.Machine

/-- The code a command error writes into `STATUS.ERR` (R272). -/
def errCode : CmdError → BitVec 3
  | .illegalCmd  => 1
  | .gfConst     => 2
  | .noSchedule  => 3
  | .noHashState => 4

/-- The byte a host read of `STATUS` returns: ERR [2:0], RK_VALID [3], W_VALID [4], H_VALID [5], zeros [7:6] (R33). -/
def Status.toByte (st : Status) : Byte :=
  0#2 ++ BitVec.ofBool st.hValid ++ BitVec.ofBool st.wValid ++ BitVec.ofBool st.rkValid ++ st.err

/-- `STATUS.ERR <- code` (R34). -/
def State.setErr (code : BitVec 3) (s : State) : State :=
  { s with status := { s.status with err := code } }

/-- `STATUS.RK_VALID <- b` (R33). -/
def State.setRkValid (b : Bool) (s : State) : State :=
  { s with status := { s.status with rkValid := b } }

/-- `STATUS.W_VALID <- b` (R33). -/
def State.setWValid (b : Bool) (s : State) : State :=
  { s with status := { s.status with wValid := b } }

/-- `STATUS.H_VALID <- b` (R33). -/
def State.setHValid (b : Bool) (s : State) : State :=
  { s with status := { s.status with hValid := b } }

end Sys2Proof.Machine
end

