-- ==== Sys2Proof/Machine/Ops.lean ====
section
/-! DEFINITION. The shared operations: writing a register, completing a command, raising a command error
(R12, R28 to R34, R271). -/

namespace Sys2Proof.Machine

/-- `KEY[i] <- v` (R65). -/
def State.setKeyByte (i : Fin 16) (v : Byte) (s : State) : State :=
  { s with key := s.key.set i v }

/-- `DIN[i] <- v` (R65). -/
def State.setDinByte (i : Fin 16) (v : Byte) (s : State) : State :=
  { s with din := s.din.set i v }

/-- `MSG[i] <- v` (R65). -/
def State.setMsgByte (i : Fin 64) (v : Byte) (s : State) : State :=
  { s with msg := s.msg.set i v }

/-- `GF_IN <- v` (R65). -/
def State.setGfIn (v : Byte) (s : State) : State :=
  { s with gfIn := v }

/-- `GF_OUT <- v` (R29). -/
def State.setGfOut (v : Byte) (s : State) : State :=
  { s with gfOut := v }

/-- `DOUT <- v`, all 16 bytes at once (R28). -/
def State.setDout (v : Vector Byte 16) (s : State) : State :=
  { s with dout := v }

/-- `RK <- v`, all 44 words at once (R30). -/
def State.setRk (v : Vector Word 44) (s : State) : State :=
  { s with rk := v }

/-- `W <- v`, all 64 words at once (R31). -/
def State.setW (v : Vector Word 64) (s : State) : State :=
  { s with w := v }

/-- `H <- v` (R32). -/
def State.setH (v : Vector Word 8) (s : State) : State :=
  { s with h := v }

/-- The byte the bus returns to the host (R62, R85, log 2). -/
def State.setRdata (v : Option Byte) (s : State) : State :=
  { s with rdata := v }

/-- The events still to come (log 1). -/
def State.setPending (es : List HostEvent) (s : State) : State :=
  { s with pending := es }

/-- A command completes: `STATUS.ERR <- 0` over the results it has written (R34, R272). -/
def complete (s : State) : Host.Outcome State Fault Refusal :=
  .next (s.setErr 0)

/-- `raise CmdError(code)`: the command stops, `STATUS.ERR <- code`, "and leave every other piece of state exactly as
it was before the command began" (R12, R271). This is all the core does on an error; there is no trap entry (R283) and
nothing returns from one: "the next command executes normally whatever `ERR` holds" (R284). -/
def raiseCmdError (e : CmdError) (s : State) : Host.Outcome State Fault Refusal :=
  .next (s.setErr (errCode e))

end Sys2Proof.Machine
end

