-- ==== Sys2Proof/Machine/Bus.lean ====
section
/-! DEFINITION. The host register space: the address map and what a read returns (spec/20_memory.md R60 to R74). -/

namespace Sys2Proof.Machine

/-- What stands at a host address (R64). -/
inductive Region where
  /-- `KEY[i]`, read/write (R65) -/
  | key (i : Fin 16)
  /-- `DIN[i]`, read/write (R65) -/
  | din (i : Fin 16)
  /-- `DOUT[i]`, read-only (R66) -/
  | dout (i : Fin 16)
  /-- `GF_IN`, read/write (R65) -/
  | gfIn
  /-- `GF_OUT`, read-only (R66) -/
  | gfOut
  /-- `CMD`, the trigger (R36, R67) -/
  | cmd
  /-- `STATUS`, read-only (R66) -/
  | status
  /-- `MSG[i]`, read/write (R65) -/
  | msg (i : Fin 64)
  /-- byte `i` of HVIEW, read-only (R68) -/
  | hview (i : Fin 32)
  /-- byte `i` of RKVIEW, read-only (R69) -/
  | rkview (i : Fin 176)
  /-- byte `i` of WVIEW, read-only (R70) -/
  | wview (i : Fin 256)
  /-- reserved: reads 0x00, ignores writes (R71) -/
  | reserved
deriving DecidableEq, Repr

/-- The address map (R64): "Element `i` of a byte array at base `B` is at address `B + i`." -/
def region (a : Addr) : Region :=
  let n := a.toNat
  if h : n < 0x010 then .key ⟨n, h⟩
  else if h : n < 0x020 then .din ⟨n - 0x010, by omega⟩
  else if h : n < 0x030 then .dout ⟨n - 0x020, by omega⟩
  else if n = 0x030 then .gfIn
  else if n = 0x031 then .gfOut
  else if n < 0x038 then .reserved
  else if n = 0x038 then .cmd
  else if n = 0x039 then .status
  else if n < 0x040 then .reserved
  else if h : n < 0x080 then .msg ⟨n - 0x040, by omega⟩
  else if h : n < 0x0A0 then .hview ⟨n - 0x080, by omega⟩
  else if n < 0x100 then .reserved
  else if h : n < 0x1B0 then .rkview ⟨n - 0x100, by omega⟩
  else if n < 0x200 then .reserved
  else if h : n < 0x300 then .wview ⟨n - 0x200, by omega⟩
  else .reserved

/-- The host address of `CMD` (R36). -/
def cmdAddr : Addr := 0x038

/-- `MemRead(a, 1)`: the byte a host read of `a` returns (R64 to R71). No read has a side effect (R75). -/
def busRead (s : State) (a : Addr) : Byte :=
  match region a with
  | .key i    => s.key[i]
  | .din i    => s.din[i]
  | .dout i   => s.dout[i]
  | .gfIn     => s.gfIn
  | .gfOut    => s.gfOut
  | .cmd      => 0x00
  | .status   => s.status.toByte
  | .msg i    => s.msg[i]
  | .hview i  => viewByte s.h i.val (by omega)
  | .rkview i => viewByte s.rk i.val (by omega)
  | .wview i  => viewByte s.w i.val (by omega)
  | .reserved => 0x00

end Sys2Proof.Machine
end

