-- ==== Sys2Proof/Machine/Gf.lean ====
section
/-! DEFINITION. The GF(2^8) multiplier and the GFMUL commands (spec/41_gf_multiplier.md R130 to R139). -/

namespace Sys2Proof.Machine

/-- `xtime(b)`: "shift left one bit; if the original high bit was set, XOR the shifted result with 0x1b" (R130). -/
def xtime (b : Byte) : Byte :=
  (b <<< 1) ^^^ (if b.getLsbD 7 then 0x1b else 0x00)

/-- The closed set of multiplier constants (R131). `mul` "is defined for no other `c`". -/
inductive GfConst where
  | c01
  | c02
  | c03
  | c09
  | c0B
  | c0D
  | c0E
deriving DecidableEq, Repr

/-- The constant as a byte (R92, R131). -/
def GfConst.toByte : GfConst → Byte
  | .c01 => 0x01
  | .c02 => 0x02
  | .c03 => 0x03
  | .c09 => 0x09
  | .c0B => 0x0b
  | .c0D => 0x0d
  | .c0E => 0x0e

/-- `mul(c, b)` by the addition chain of each constant, with `x2 = xtime(b)`, `x4 = xtime(x2)`, `x8 = xtime(x4)` (R131). -/
def mul (c : GfConst) (b : Byte) : Byte :=
  let x2 := xtime b
  let x4 := xtime x2
  let x8 := xtime x4
  match c with
  | .c01 => b
  | .c02 => x2
  | .c03 => x2 ^^^ b
  | .c09 => x8 ^^^ b
  | .c0B => x8 ^^^ x2 ^^^ b
  | .c0D => x8 ^^^ x4 ^^^ b
  | .c0E => x8 ^^^ x4 ^^^ x2

/-- What the seven GFMUL commands have in common: `GF_OUT <- mul(c, GF_IN); STATUS.ERR <- 0` (R132 to R138). -/
def gfmul (c : GfConst) (s : State) : Host.Outcome State Fault Refusal :=
  complete (s.setGfOut (mul c s.gfIn))

/-- GFMUL.01 (R132). -/
def execGfmul01 (s : State) : Host.Outcome State Fault Refusal := gfmul .c01 s

/-- GFMUL.02 (R133). -/
def execGfmul02 (s : State) : Host.Outcome State Fault Refusal := gfmul .c02 s

/-- GFMUL.03 (R134). -/
def execGfmul03 (s : State) : Host.Outcome State Fault Refusal := gfmul .c03 s

/-- GFMUL.09 (R135). -/
def execGfmul09 (s : State) : Host.Outcome State Fault Refusal := gfmul .c09 s

/-- GFMUL.0B (R136). -/
def execGfmul0B (s : State) : Host.Outcome State Fault Refusal := gfmul .c0B s

/-- GFMUL.0D (R137). -/
def execGfmul0D (s : State) : Host.Outcome State Fault Refusal := gfmul .c0D s

/-- GFMUL.0E (R138). -/
def execGfmul0E (s : State) : Host.Outcome State Fault Refusal := gfmul .c0E s

end Sys2Proof.Machine
end

