-- ==== Sys2Proof/Machine/KeySchedule.lean ====
section
/-! DEFINITION. The AES-128 key schedule expander and KEYEXP (spec/42_key_schedule.md R150 to R157). -/

namespace Sys2Proof.Machine

/-- `RotWord(w)`: "left-rotates a word by one byte" (R150). -/
def rotWord (x : Word) : Word :=
  (x <<< 8) ||| (x >>> 24)

/-- `SubWord(w)`: "substitutes each of its 4 bytes through the forward S-box" (R151). -/
def subWord (x : Word) : Word :=
  packBe (sbox (unpackBe x)[0]) (sbox (unpackBe x)[1]) (sbox (unpackBe x)[2]) (sbox (unpackBe x)[3])

/-- The round constant as a word: the byte `RCON[j]` in the most significant place (R155). -/
def rconWord (j : Nat) (hj : j < 10) : Word :=
  rcon[j].setWidth 32 <<< 24

/-- The value `temp` that word `i` of the schedule adds to word `i - 4`, from `prev`, word `i - 1`: substituted,
rotated and with the round constant when `i` is a multiple of 4 (R152). -/
def expandTemp (i : Nat) (hi : 4 ≤ i ∧ i < 44) (prev : Word) : Word :=
  if i % 4 = 0 then subWord (rotWord prev) ^^^ rconWord (i / 4 - 1) (by omega) else prev

/-- One turn of the loop of `expand`, for `i = n + 4`: `RK[i] <- RK[i-4] ^ temp` with `temp` from `RK[i-1]` (R152). -/
def expandTurn (n : Nat) (hn : n < 40) (rk : Vector Word 44) : Vector Word 44 :=
  rk.set (n + 4) (rk[n] ^^^ expandTemp (n + 4) (by omega) rk[n + 3])

/-- The loop of `expand` after its first `n` turns, that is for `i` in `4 .. n+3` (R152).
The words not reached yet are zero here and are all written when `n` is 40. -/
def expandLoop (key : Vector Byte 16) : (n : Nat) → n ≤ 40 → Vector Word 44
  | 0, _ => Vector.ofFn fun i => if h : i.val < 4 then packedWord key i.val (by omega) else 0
  | n + 1, hn => expandTurn n (by omega) (expandLoop key n (by omega))

/-- `expand(KEY)`, the whole schedule (R152, R156). Irreducible for the elaborator, which would
otherwise unroll it in many a comparison; its lemmas are in Laws/Schedules.lean. -/
@[irreducible] def expand (key : Vector Byte 16) : Vector Word 44 :=
  expandLoop key 40 (by omega)

/-- What KEYEXP, AES_ENC and AES_DEC begin with: `expand(KEY)` into `RK`, `RK_VALID <- 1` (R154, R157). -/
def State.expandKey (s : State) : State :=
  (s.setRk (expand s.key)).setRkValid true

/-- KEYEXP (R157). -/
def execKeyexp (s : State) : Host.Outcome State Fault Refusal :=
  complete s.expandKey

end Sys2Proof.Machine
end

