-- ==== Sys2Proof/Machine/AesEncrypt.lean ====
section
/-! DEFINITION. The AES-128 encrypt pipeline and AES_ENC (spec/43_aes_encrypt.md R170 to R177). -/

namespace Sys2Proof.Machine

/-- `AddRoundKey(r)`: "XOR round-key slice `r` into the state" (R170). -/
def addRoundKey (rk : Vector Word 44) (r : Fin 11) (s : AesState) : AesState :=
  AesState.ofFn fun row col => s[row][col] ^^^ rkByte rk r row col

/-- `SubBytes()` (R171). -/
def subBytes (s : AesState) : AesState :=
  AesState.ofFn fun row col => sbox s[row][col]

/-- `ShiftRows()`: `S[r][c] <- old[(c + r) mod 4]`; the sum of two `Fin 4` is modulo 4 (R172). -/
def shiftRows (s : AesState) : AesState :=
  AesState.ofFn fun row col => s[row][col + row]

/-- The MixColumns matrix (R173). -/
def mixMatrix : Vector (Vector GfConst 4) 4 :=
  #v[#v[.c02, .c03, .c01, .c01],
    #v[.c01, .c02, .c03, .c01],
    #v[.c01, .c01, .c02, .c03],
    #v[.c03, .c01, .c01, .c02]]

/-- A matrix over GF(2^8) applied to every column, "as a 4-vector (row index down)" (R173, R174, R193). -/
def mulColumns (m : Vector (Vector GfConst 4) 4) (s : AesState) : AesState :=
  AesState.ofFn fun row col =>
    mul m[row][0] s[0][col] ^^^ mul m[row][1] s[1][col] ^^^ mul m[row][2] s[2][col] ^^^ mul m[row][3] s[3][col]

/-- `MixColumns()` (R174). The entries 01 of the matrix give `mul(0x01, a) = a` (R131). -/
def mixColumns (s : AesState) : AesState :=
  mulColumns mixMatrix s

/-- One turn of the loop of `Cipher`: SubBytes, ShiftRows, MixColumns in rounds 1 to 9 only, AddRoundKey (R175, R177). -/
def encRound (rk : Vector Word 44) (s : AesState) (rnd : Fin 11) : AesState :=
  let t := shiftRows (subBytes s)
  addRoundKey rk rnd (if rnd < 10 then mixColumns t else t)

/-- `Cipher()`: AddRoundKey(0), then rounds 1 to 10 (R175). Irreducible for the elaborator, as `expand` is. -/
@[irreducible] def cipher (rk : Vector Word 44) (s : AesState) : AesState :=
  [1, 2, 3, 4, 5, 6, 7, 8, 9, 10].foldl (encRound rk) (addRoundKey rk 0 s)

/-- AES_ENC: encrypt `DIN` under `KEY`, with the schedule expanded afresh (R154, R176). -/
def execAesEnc (s : State) : Host.Outcome State Fault Refusal :=
  let t := s.expandKey
  complete (t.setDout (storeState (cipher t.rk (loadState t.din))))

end Sys2Proof.Machine
end

