-- ==== Sys2Proof/Machine/AesDecrypt.lean ====
section
/-! DEFINITION. The AES-128 decrypt pipeline and AES_DEC (spec/44_aes_decrypt.md R190 to R195). -/

namespace Sys2Proof.Machine

/-- `InvShiftRows()`: `S[r][c] <- old[(c - r) mod 4]`; the difference of two `Fin 4` is modulo 4 (R190). -/
def invShiftRows (s : AesState) : AesState :=
  AesState.ofFn fun row col => s[row][col - row]

/-- `InvSubBytes()` (R191). -/
def invSubBytes (s : AesState) : AesState :=
  AesState.ofFn fun row col => invSbox s[row][col]

/-- The InvMixColumns matrix (R192). -/
def invMixMatrix : Vector (Vector GfConst 4) 4 :=
  #v[#v[.c0E, .c0B, .c0D, .c09],
    #v[.c09, .c0E, .c0B, .c0D],
    #v[.c0D, .c09, .c0E, .c0B],
    #v[.c0B, .c0D, .c09, .c0E]]

/-- `InvMixColumns()` (R193). -/
def invMixColumns (s : AesState) : AesState :=
  mulColumns invMixMatrix s

/-- One turn of the loop of `InvCipher`: InvShiftRows, InvSubBytes, AddRoundKey, InvMixColumns unless the round is 0 (R195). -/
def decRound (rk : Vector Word 44) (s : AesState) (rnd : Fin 11) : AesState :=
  let t := addRoundKey rk rnd (invSubBytes (invShiftRows s))
  if 0 < rnd then invMixColumns t else t

/-- `InvCipher()`: AddRoundKey(10), then rounds 9 down to 0 (R195). Irreducible for the elaborator, as `expand` is. -/
@[irreducible] def invCipher (rk : Vector Word 44) (s : AesState) : AesState :=
  [9, 8, 7, 6, 5, 4, 3, 2, 1, 0].foldl (decRound rk) (addRoundKey rk 10 s)

/-- AES_DEC: decrypt `DIN` under `KEY`; "the schedule is the same forward schedule as for AES_ENC" (R194). -/
def execAesDec (s : State) : Host.Outcome State Fault Refusal :=
  let t := s.expandKey
  complete (t.setDout (storeState (invCipher t.rk (loadState t.din))))

end Sys2Proof.Machine
end

