-- ==== Sys2Proof/Machine/Sha256.lean ====
section
/-! DEFINITION. The SHA-256 message schedule, the compression function and the SHA commands
(spec/45_sha256.md R210 to R222). Addition of words is modulo 2^32 (R213). -/

namespace Sys2Proof.Machine

/-- `ROTR_n(x)` (R210). -/
def rotr (n : Nat) (x : Word) : Word :=
  (x >>> n) ||| (x <<< (32 - n))

/-- `sig0(x)` of the message schedule; `SHR_3` is the logical shift (R210, R211). -/
def smallSig0 (x : Word) : Word :=
  rotr 7 x ^^^ rotr 18 x ^^^ (x >>> 3)

/-- `sig1(x)` of the message schedule (R211). -/
def smallSig1 (x : Word) : Word :=
  rotr 17 x ^^^ rotr 19 x ^^^ (x >>> 10)

/-- `Sig0(x)` of the compression function (R212). -/
def bigSig0 (x : Word) : Word :=
  rotr 2 x ^^^ rotr 13 x ^^^ rotr 22 x

/-- `Sig1(x)` of the compression function (R212). -/
def bigSig1 (x : Word) : Word :=
  rotr 6 x ^^^ rotr 11 x ^^^ rotr 25 x

/-- `Ch(x, y, z)` (R212). -/
def ch (x y z : Word) : Word :=
  (x &&& y) ^^^ (~~~x &&& z)

/-- `Maj(x, y, z)` (R212). -/
def maj (x y z : Word) : Word :=
  (x &&& y) ^^^ (x &&& z) ^^^ (y &&& z)

/-- One turn of the loop of `schedule`, for `t = n + 16`:
`W[t] <- sig1(W[t-2]) + W[t-7] + sig0(W[t-15]) + W[t-16]` (R214). -/
def scheduleTurn (n : Nat) (hn : n < 48) (w : Vector Word 64) : Vector Word 64 :=
  w.set (n + 16) (smallSig1 w[n + 14] + w[n + 9] + smallSig0 w[n + 1] + w[n])

/-- The loop of `schedule` after its first `n` turns, that is for `t` in `16 .. n+15` (R214). The words not reached yet are zero here and are all
written when `n` is 48. -/
def scheduleLoop (msg : Vector Byte 64) : (n : Nat) → n ≤ 48 → Vector Word 64
  | 0, _ => Vector.ofFn fun t => if h : t.val < 16 then packedWord msg t.val (by omega) else 0
  | n + 1, hn => scheduleTurn n (by omega) (scheduleLoop msg n (by omega))

/-- `schedule(MSG)` (R214, R222). Irreducible for the elaborator, as `expand` is; its lemmas are in
Laws/Schedules.lean. -/
@[irreducible] def schedule (msg : Vector Byte 64) : Vector Word 64 :=
  scheduleLoop msg 48 (by omega)

/-- The eight working variables of the compression function, local to one command (R41, R215). -/
@[ext]
structure Vars where
  a : Word
  b : Word
  c : Word
  d : Word
  e : Word
  f : Word
  g : Word
  h : Word
deriving DecidableEq, Repr

/-- The working variables before round 0: the hash state (R215). -/
def Vars.ofHash (hin : Vector Word 8) : Vars where
  a := hin[0]
  b := hin[1]
  c := hin[2]
  d := hin[3]
  e := hin[4]
  f := hin[5]
  g := hin[6]
  h := hin[7]

/-- `T1 = h + Sig1(e) + Ch(e, f, g) + K[t] + W[t]` (R215). -/
def Vars.t1 (v : Vars) (k w : Word) : Word :=
  v.h + bigSig1 v.e + ch v.e v.f v.g + k + w

/-- `T2 = Sig0(a) + Maj(a, b, c)` (R215). -/
def Vars.t2 (v : Vars) : Word :=
  bigSig0 v.a + maj v.a v.b v.c

/-- One round with the constant `k` and the schedule word `w`; every assignment uses the values from before it (R215). -/
def Vars.round (v : Vars) (k w : Word) : Vars where
  a := v.t1 k w + v.t2
  b := v.a
  c := v.b
  d := v.c
  e := v.d + v.t1 k w
  f := v.e
  g := v.f
  h := v.g

/-- The working variables after the first `n` rounds (R215). -/
def rounds (hin : Vector Word 8) (w : Vector Word 64) : (n : Nat) → n ≤ 64 → Vars
  | 0, _ => Vars.ofHash hin
  | n + 1, hn => (rounds hin w n (by omega)).round (kConst n (by omega)) w[n]

/-- The final addition: result word `j` is `Hin[j] + v_j` (R216). -/
def addVars (hin : Vector Word 8) (v : Vars) : Vector Word 8 :=
  #v[hin[0] + v.a, hin[1] + v.b, hin[2] + v.c, hin[3] + v.d, hin[4] + v.e, hin[5] + v.f, hin[6] + v.g, hin[7] + v.h]

/-- `compress(Hin, W)` (R215, R216). Irreducible for the elaborator, as `expand` is. -/
@[irreducible] def compress (hin : Vector Word 8) (w : Vector Word 64) : Vector Word 8 :=
  addVars hin (rounds hin w 64 (by omega))

/-- SHA_INIT: `H <- IV`, `H_VALID <- 1`, `W_VALID <- 0` (R218). -/
def execShaInit (s : State) : Host.Outcome State Fault Refusal :=
  complete (((s.setH iv).setHValid true).setWValid false)

/-- SHA_SCHED: `W <- schedule(MSG)`, `W_VALID <- 1` (R219). -/
def execShaSched (s : State) : Host.Outcome State Fault Refusal :=
  complete ((s.setW (schedule s.msg)).setWValid true)

/-- SHA_COMP: NO_HASH_STATE, then NO_SCHEDULE (R280); else `H <- compress(H, W)`, `W_VALID <- 0` (R220). -/
def execShaComp (s : State) : Host.Outcome State Fault Refusal :=
  if s.status.hValid = false then raiseCmdError .noHashState s
  else if s.status.wValid = false then raiseCmdError .noSchedule s
  else complete ((s.setH (compress s.h s.w)).setWValid false)

/-- SHA_BLOCK: NO_HASH_STATE; else `W <- schedule(MSG)`, `H <- compress(H, W)` with the new `W`, `W_VALID <- 0` (R221). -/
def execShaBlock (s : State) : Host.Outcome State Fault Refusal :=
  if s.status.hValid = false then raiseCmdError .noHashState s
  else
    let t := s.setW (schedule s.msg)
    complete ((t.setH (compress t.h t.w)).setWValid false)

end Sys2Proof.Machine
end

