-- ==== Sys2Proof/Machine/Dispatch.lean ====
section
/-! DEFINITION. One arm per command: each calls the command's meaning (R93). -/

namespace Sys2Proof.Machine

/-- The effect of a command on the core (R38, R93). -/
def exec (i : Instr) (s : State) : Host.Outcome State Fault Refusal :=
  match i with
  | .gfmul01 => Sys2Proof.Machine.execGfmul01 s
  | .gfmul02 => Sys2Proof.Machine.execGfmul02 s
  | .gfmul03 => Sys2Proof.Machine.execGfmul03 s
  | .gfmul09 => Sys2Proof.Machine.execGfmul09 s
  | .gfmul0B => Sys2Proof.Machine.execGfmul0B s
  | .gfmul0D => Sys2Proof.Machine.execGfmul0D s
  | .gfmul0E => Sys2Proof.Machine.execGfmul0E s
  | .keyexp => Sys2Proof.Machine.execKeyexp s
  | .aesEnc => Sys2Proof.Machine.execAesEnc s
  | .aesDec => Sys2Proof.Machine.execAesDec s
  | .shaInit => Sys2Proof.Machine.execShaInit s
  | .shaSched => Sys2Proof.Machine.execShaSched s
  | .shaComp => Sys2Proof.Machine.execShaComp s
  | .shaBlock => Sys2Proof.Machine.execShaBlock s

end Sys2Proof.Machine
end

