-- ==== Sys2Proof/Machine/Command.lean ====
section
/-! DEFINITION. A host event's whole effect: a command word, a transaction, a reset (R40, R62 to R72, R95, R300 to R302). -/

namespace Sys2Proof.Machine

/-- A host write of byte `v` to `CMD`: "decode `v`, execute the selected command or raise its error, and update
`STATUS`", as one indivisible transition (R40, R95). -/
def runCommand (v : Byte) (s : State) : Host.Outcome State Fault Refusal :=
  match decode v with
  | .ok i    => exec i s
  | .error e => raiseCmdError e s

/-- `MemWrite(a, 1, v)` (R64): store the byte (R65), execute the command word (R67), or be ignored (R71, R72). -/
def busWrite (a : Addr) (v : Byte) (s : State) : Host.Outcome State Fault Refusal :=
  match region a with
  | .key i    => .next (s.setKeyByte i v)
  | .din i    => .next (s.setDinByte i v)
  | .msg i    => .next (s.setMsgByte i v)
  | .gfIn     => .next (s.setGfIn v)
  | .cmd      => runCommand v s
  | .dout _   => .next s
  | .gfOut    => .next s
  | .status   => .next s
  | .hview _  => .next s
  | .rkview _ => .next s
  | .wview _  => .next s
  | .reserved => .next s

/-- The effect of one event on the core: a transaction (R62), or a reset, which leaves exactly the reset state with
the event's draw, "no part of the command's result" being guaranteed when it cuts a write short (R281, R301, R302,
log 5). -/
def hostEvent (e : HostEvent) (s : State) : Host.Outcome State Fault Refusal :=
  match e with
  | .read a            => .next (s.setRdata (some (busRead s a)))
  | .write a v         => busWrite a v s
  | .reset d           => .next (State.resetWith d s.pending)
  | .resetDuring _ _ d => .next (State.resetWith d s.pending)

/-- The oldest pending event is taken off the input and answered; a new event withdraws the byte of an earlier read
(R77, log 1, log 2). -/
def serve (s : State) : Host.Outcome State Fault Refusal :=
  match s.pending with
  | []      => .next s
  | e :: es => hostEvent e ((s.setPending es).setRdata none)

end Sys2Proof.Machine
end

