-- ==== Sys2Proof/Machine/Step.lean ====
section
/-! DEFINITION. One step: the host's next event, or none (R20, R77, D2). -/

namespace Sys2Proof.Machine

/-- "Transaction-level: one step per host bus transaction" (D2). With no event pending the core "is idle and holds all
state" (R20, R292, log 10). -/
def step (s : State) : Host.Outcome State Fault Refusal :=
  serve s

/-- `s` with the write of the command byte to `CMD` as the host's next transaction: the core fetches no instruction,
the host writes each command word into `CMD` (R22, log 9). -/
def State.withFetchWord (s : State) (nbits w : Nat) : State :=
  s.setPending (.write cmdAddr (tableByte nbits w) :: s.pending)

end Sys2Proof.Machine
end

