-- ==== Sys2Proof/Machine/HostScript.lean ====
section
/-! DEFINITION. Host procedures and host-script notation (spec/30_encoding.md R98, R99; spec/46_host_procedures.md R250
to R258). They yield transactions for the host to issue, or data on the host's side; "never steps of the core" (R250):
nothing in `step` calls them. -/

namespace Sys2Proof.Machine

/-- `WR a, b0`, `WR a+1, b1`, … (R98). -/
def writeBytes : Addr → List Byte → List HostEvent
  | _, []      => []
  | a, b :: bs => .write a b :: writeBytes (a + 1) bs

/-- `RD a`, `RD a+1`, …, `n` of them (R98). -/
def readBytes : Addr → Nat → List HostEvent
  | _, 0     => []
  | a, n + 1 => .read a :: readBytes (a + 1) n

/-- `CMD m`: `WR 0x038, <byte of m>` (R98). -/
def issue (i : Instr) : List HostEvent := [.write cmdAddr (encode i)]

/-- `LOADKEY k` (R99). -/
def loadKey (k : Vector Byte 16) : List HostEvent := writeBytes 0x000 k.toList

/-- `LOADDIN d` (R99). -/
def loadDin (d : Vector Byte 16) : List HostEvent := writeBytes 0x010 d.toList

/-- `LOADMSG m` (R99). -/
def loadMsg (m : Vector Byte 64) : List HostEvent := writeBytes 0x040 m.toList

/-- `READOUT` (R99). -/
def readOut : List HostEvent := readBytes 0x020 16

/-- `READDIGEST` (R99). -/
def readDigest : List HostEvent := readBytes 0x080 32

/-- `READRK i` (R99). -/
def readRk (i : Fin 44) : List HostEvent := readBytes (0x100 + BitVec.ofNat 10 (4 * i.val)) 4

/-- `READW t` (R99). -/
def readW (t : Fin 64) : List HostEvent := readBytes (0x200 + BitVec.ofNat 10 (4 * t.val)) 4

/-- `CHECK`: the read of `STATUS`; the host expects bits [2:0] to be 0 (R99). -/
def check : List HostEvent := [.read 0x039]

/-- `GFMUL c`: the byte `0x10 + c` (R98). -/
def gfmulByte (c : GfConst) : Byte := 0x10 + c.toByte

/-- `GF c, b` (R99). -/
def gfScript (c : GfConst) (b : Byte) : List HostEvent :=
  [.write 0x030 b, .write cmdAddr (gfmulByte c), .read 0x031]

/-- Encrypting (R257). -/
def encryptScript (key plaintext : Vector Byte 16) : List HostEvent :=
  loadKey key ++ loadDin plaintext ++ issue .aesEnc ++ check ++ readOut

/-- Decrypting (R258). -/
def decryptScript (key ciphertext : Vector Byte 16) : List HostEvent :=
  loadKey key ++ loadDin ciphertext ++ issue .aesDec ++ check ++ readOut

/-- The number of zero bytes of the padding, `z = (55 - L) mod 64` (R251). -/
def padZeros (len : Nat) : Nat := (119 - len % 64) % 64

/-- The 64-bit big-endian length field of a message of `len` bytes: `8L` as two packed words (R251). `pad` and `fileBlocks`
use it below the bound of R253 only, where `8L` fits. -/
def lengthField (len : Nat) : List Byte :=
  (unpackBe (BitVec.ofNat 32 (8 * len / 2 ^ 32))).toList ++ (unpackBe (BitVec.ofNat 32 (8 * len))).toList

/-- What follows the message in the padded message (R251). -/
def padding (len : Nat) : List Byte :=
  [0x80] ++ List.replicate (padZeros len) 0x00 ++ lengthField len

/-- The padded message; "a host must refuse a longer message rather than wrap the length" (R251, R253). -/
def pad (m : List Byte) : Option (List Byte) :=
  if m.length < 2 ^ 61 then some (m ++ padding m.length) else none

/-- The 64 bytes of a byte string from `64 k` on, zero past its end. Irreducible for the elaborator, which would
otherwise unroll the 64 entries. -/
@[irreducible] def blockAt (m : List Byte) (k : Nat) : Vector Byte 64 :=
  Vector.ofFn fun i => m.getD (64 * k + i.val) 0

/-- The full 64-byte message blocks of a byte string, in order (R254); a trailing part of fewer than 64 bytes is left. -/
def blocks (m : List Byte) : List (Vector Byte 64) :=
  (List.range (m.length / 64)).map (blockAt m)

/-- The file variant: the full blocks unchanged, then the padded tail "with the whole-file `L` in the length field" (R255);
a file over the bound is refused as a message is (R253). -/
def fileBlocks (m : List Byte) : Option (List (Vector Byte 64)) :=
  if m.length < 2 ^ 61 then some (blocks m ++ blocks (m.drop (64 * (m.length / 64)) ++ padding m.length)) else none

/-- Hashing the blocks of a padded message with SHA_BLOCK (R254). -/
def hashBlocks (bs : List (Vector Byte 64)) : List HostEvent :=
  issue .shaInit ++ (bs.flatMap fun b => loadMsg b ++ issue .shaBlock ++ check) ++ readDigest

/-- Hashing the blocks of a padded message with SHA_SCHED and SHA_COMP (R254). -/
def hashBlocksSplit (bs : List (Vector Byte 64)) : List HostEvent :=
  issue .shaInit ++ (bs.flatMap fun b => loadMsg b ++ issue .shaSched ++ issue .shaComp ++ check) ++ readDigest

/-- Hashing a message in memory (R254). -/
def hashScript (m : List Byte) : Option (List HostEvent) := (pad m).map fun p => hashBlocks (blocks p)

/-- Hashing a message in memory with the two separate commands (R254). -/
def hashScriptSplit (m : List Byte) : Option (List HostEvent) := (pad m).map fun p => hashBlocksSplit (blocks p)

/-- Hashing a file: "the host sends the `floor(L / 64)` full blocks unchanged, then the padded tail" (R255). -/
def hashFileScript (m : List Byte) : Option (List HostEvent) := (fileBlocks m).map hashBlocks

/-- Hashing a file with the two separate commands (R254, R255). -/
def hashFileScriptSplit (m : List Byte) : Option (List HostEvent) := (fileBlocks m).map hashBlocksSplit

/-- A lowercase hexadecimal digit (R256). -/
def hexDigit (n : BitVec 4) : Char :=
  ['0', '1', '2', '3', '4', '5', '6', '7', '8', '9', 'a', 'b', 'c', 'd', 'e', 'f'].getD n.toNat '0'

/-- A byte as "two lowercase hexadecimal digits, high nibble first" (R256). -/
def hexByte (b : Byte) : List Char :=
  [hexDigit (b.extractLsb' 4 4), hexDigit (b.extractLsb' 0 4)]

/-- Digest rendering: the 32 HVIEW bytes in address order (R223, R256). -/
def renderDigest (s : State) : List Char :=
  (List.range 32).flatMap fun i => hexByte (busRead s (0x080 + BitVec.ofNat 10 i))

end Sys2Proof.Machine
end

