-- ==== Sys2Proof/Safety.lean ====
section
/-! DEFINITION. The terms claims about the core are stated in: what a schedule register holds when it is marked valid,
the invariant of every step, which addresses a command may change, and field arithmetic written without the
multiplier of the core. -/

namespace Sys2Proof.Machine

/-- The words satisfy the recurrence of the key schedule, whatever the key (R152). -/
def IsKeySchedule (rk : Vector Word 44) : Prop :=
  ∀ (i : Nat) (hi : 4 ≤ i ∧ i < 44), rk[i] = rk[i - 4] ^^^ expandTemp i hi rk[i - 1]

/-- The words satisfy the recurrence of the message schedule, whatever the message block (R214). -/
def IsMessageSchedule (w : Vector Word 64) : Prop :=
  ∀ (t : Nat) (_ : 16 ≤ t ∧ t < 64),
    w[t] = smallSig1 w[t - 2] + w[t - 7] + smallSig0 w[t - 15] + w[t - 16]

/-- The invariant: `ERR` holds no reserved code (R35), and a valid bit tells the truth about its register file (R33). -/
structure CoreInv (s : State) : Prop where
  /-- "Codes 5, 6 and 7 of `STATUS.ERR` are reserved; no command writes them" (R35) -/
  err_defined : s.status.err.toNat ≤ 4
  /-- `RK_VALID` = 1: `RK` holds the expansion of a key (R33) -/
  rk_valid    : s.status.rkValid = true → IsKeySchedule s.rk
  /-- `W_VALID` = 1: `W` holds the schedule of a message block (R33) -/
  w_valid     : s.status.wValid = true → IsMessageSchedule s.w

/-- A step that answers a next state: the core neither traps nor stops (R270). -/
def Runs (s : State) : Prop := ∃ t, step s = .next t

/-- The commands of the GF multiplier (R93). -/
abbrev isGf (i : Instr) : Prop :=
  i = .gfmul01 ∨ i = .gfmul02 ∨ i = .gfmul03 ∨ i = .gfmul09 ∨ i = .gfmul0B ∨ i = .gfmul0D ∨ i = .gfmul0E

/-- The commands of the AES unit (R93). -/
abbrev isAes (i : Instr) : Prop :=
  i = .keyexp ∨ i = .aesEnc ∨ i = .aesDec

/-- The commands of the SHA-256 unit (R93). -/
abbrev isSha (i : Instr) : Prop :=
  i = .shaInit ∨ i = .shaSched ∨ i = .shaComp ∨ i = .shaBlock

/-- The host writes the command byte `v` to `CMD`, host address 0x038 (R36, R40). -/
def writeCmd (v : Byte) (s : State) : Host.Outcome State Fault Refusal := hostEvent (.write 0x038 v) s

/-- The nine GFMUL words with an unsupported constant (R139). -/
def gfConstWords : List Byte := [0x10, 0x14, 0x15, 0x16, 0x17, 0x18, 0x1A, 0x1C, 0x1F]

/-- The fourteen valid command words, with their commands (R94). -/
def validWords : List (Byte × Instr) :=
  [(0x11, .gfmul01), (0x12, .gfmul02), (0x13, .gfmul03), (0x19, .gfmul09), (0x1B, .gfmul0B), (0x1D, .gfmul0D),
    (0x1E, .gfmul0E), (0x20, .keyexp), (0x30, .aesEnc), (0x40, .aesDec), (0x50, .shaInit), (0x60, .shaSched),
    (0x70, .shaComp), (0x80, .shaBlock)]

/-- The host-writable storage: `KEY`, `DIN`, `GF_IN`, `MSG` (R64, R65). -/
abbrev inStorage (a : Addr) : Prop :=
  a.toNat ≤ 0x01F ∨ a.toNat = 0x030 ∨ (0x040 ≤ a.toNat ∧ a.toNat ≤ 0x07F)

/-- The reserved addresses (R71). -/
abbrev inReserved (a : Addr) : Prop :=
  (0x032 ≤ a.toNat ∧ a.toNat ≤ 0x037) ∨ (0x03A ≤ a.toNat ∧ a.toNat ≤ 0x03F) ∨ (0x0A0 ≤ a.toNat ∧ a.toNat ≤ 0x0FF) ∨
    (0x1B0 ≤ a.toNat ∧ a.toNat ≤ 0x1FF) ∨ (0x300 ≤ a.toNat ∧ a.toNat ≤ 0x3FF)

/-- The addresses of `STATUS`, which every command may change (R33). -/
abbrev inStatus (a : Addr) : Prop := a = 0x039

/-- The addresses of `DOUT` (R64). -/
abbrev inDout (a : Addr) : Prop := 0x020 ≤ a.toNat ∧ a.toNat ≤ 0x02F

/-- The addresses of HVIEW (R64). -/
abbrev inHview (a : Addr) : Prop := 0x080 ≤ a.toNat ∧ a.toNat ≤ 0x09F

/-- The addresses of RKVIEW (R64). -/
abbrev inRkview (a : Addr) : Prop := 0x100 ≤ a.toNat ∧ a.toNat ≤ 0x1AF

/-- The addresses of WVIEW (R64). -/
abbrev inWview (a : Addr) : Prop := 0x200 ≤ a.toNat ∧ a.toNat ≤ 0x2FF

/-- The read-only addresses (R72). -/
abbrev inReadOnly (a : Addr) : Prop :=
  inDout a ∨ a = 0x031 ∨ inStatus a ∨ inHview a ∨ inRkview a ∨ inWview a

/-- The addresses whose byte a command may change: those of the registers its rule says it writes (R23, R132 to R138,
R157, R176, R194, R218 to R221). -/
def mayChange : Instr → Addr → Prop
  | .gfmul01, a | .gfmul02, a | .gfmul03, a | .gfmul09, a | .gfmul0B, a | .gfmul0D, a | .gfmul0E, a =>
    inStatus a ∨ a = 0x031
  | .keyexp, a => inStatus a ∨ inRkview a
  | .aesEnc, a | .aesDec, a => inStatus a ∨ inRkview a ∨ inDout a
  | .shaInit, a => inStatus a ∨ inHview a
  | .shaSched, a => inStatus a ∨ inWview a
  | .shaComp, a => inStatus a ∨ inHview a
  | .shaBlock, a => inStatus a ∨ inWview a ∨ inHview a

/-- The product of two bytes as polynomials over GF(2): bit `i` of `c` adds `b` shifted left by `i` (R140). -/
def polyProduct (c b : Byte) : BitVec 16 :=
  (List.range 8).foldl (fun p i => if c.getLsbD i then p ^^^ (b.setWidth 16 <<< i) else p) 0

/-- Remainder modulo `x^8+x^4+x^3+x+1`: each bit 15 down to 8 that is set is cleared by adding 0x11b shifted (R130). -/
def polyReduce (p : BitVec 16) : Byte :=
  ([7, 6, 5, 4, 3, 2, 1, 0].foldl (fun q i => if q.getLsbD (8 + i) then q ^^^ (0x11b#16 <<< i) else q) p).setWidth 8

/-- The product in GF(2^8) modulo 0x11b (R140), written without `xtime`. -/
def gfProduct (c b : Byte) : Byte := polyReduce (polyProduct c b)

/-- One column through MixColumns, "computed from the column's old values `a`" (R174). -/
def mixColumn (a : Fin 4 → Byte) : Vector Byte 4 :=
  #v[gfProduct 0x02 (a 0) ^^^ gfProduct 0x03 (a 1) ^^^ a 2 ^^^ a 3,
    a 0 ^^^ gfProduct 0x02 (a 1) ^^^ gfProduct 0x03 (a 2) ^^^ a 3,
    a 0 ^^^ a 1 ^^^ gfProduct 0x02 (a 2) ^^^ gfProduct 0x03 (a 3),
    gfProduct 0x03 (a 0) ^^^ a 1 ^^^ a 2 ^^^ gfProduct 0x02 (a 3)]

/-- One column through InvMixColumns (R193). -/
def invMixColumn (a : Fin 4 → Byte) : Vector Byte 4 :=
  #v[gfProduct 0x0e (a 0) ^^^ gfProduct 0x0b (a 1) ^^^ gfProduct 0x0d (a 2) ^^^ gfProduct 0x09 (a 3),
    gfProduct 0x09 (a 0) ^^^ gfProduct 0x0e (a 1) ^^^ gfProduct 0x0b (a 2) ^^^ gfProduct 0x0d (a 3),
    gfProduct 0x0d (a 0) ^^^ gfProduct 0x09 (a 1) ^^^ gfProduct 0x0e (a 2) ^^^ gfProduct 0x0b (a 3),
    gfProduct 0x0b (a 0) ^^^ gfProduct 0x0d (a 1) ^^^ gfProduct 0x09 (a 2) ^^^ gfProduct 0x0e (a 3)]

/-- The affine map of the S-box: `A(y) = y ^ ROTL1(y) ^ ROTL2(y) ^ ROTL3(y) ^ ROTL4(y) ^ 0x63` (R47). -/
def sboxAffine (y : Byte) : Byte :=
  y ^^^ y.rotateLeft 1 ^^^ y.rotateLeft 2 ^^^ y.rotateLeft 3 ^^^ y.rotateLeft 4 ^^^ 0x63

/-- The first 64 primes (R50, R51). -/
def firstPrimes : List Nat :=
  [2, 3, 5, 7, 11, 13, 17, 19, 23, 29, 31, 37, 41, 43, 47, 53] ++
  [59, 61, 67, 71, 73, 79, 83, 89, 97, 101, 103, 107, 109, 113, 127, 131] ++
  [137, 139, 149, 151, 157, 163, 167, 173, 179, 181, 191, 193, 197, 199, 211, 223] ++
  [227, 229, 233, 239, 241, 251, 257, 263, 269, 271, 277, 281, 283, 293, 307, 311]

end Sys2Proof.Machine
end

