-- ==== Sys2Proof/Certificates/Slice0/Obligations.lean ====
section
/-! DEFINITION. The statements for the provers. Each docstring names the rule of spec/ it formalises. -/

open Sys2Proof Sys2Proof.Machine

/-! ### Encoding -/

/-- R94: the fourteen valid command words, and "every other byte value is invalid". -/
def Obligations.CommandWordsDecode : Prop :=
  (∀ p ∈ validWords, decode p.1 = .ok p.2) ∧
    ∀ v : Byte, v ∉ validWords.map Prod.fst → ∃ e, decode v = .error e

/-- R94, R95: decoding the byte of a command gives the command, and a command's byte is the only word that decodes to it. -/
def Obligations.DecodeUndoesEncode : Prop :=
  (∀ i : Instr, decode (encode i) = .ok i) ∧ ∀ (v : Byte) (i : Instr), decode v = .ok i → encode i = v

/-- R96: the four patterns of invalid words with their counts, each "raising an error with no other effect". -/
def Obligations.InvalidWordsRaiseErrorsOnly : Prop :=
  (∀ (s : State) (opc fn : BitVec 4), opc = 0x0#4 →
      writeCmd (opc ++ fn) s = .next { s with status := { s.status with err := 1 } }) ∧
  (∀ (s : State) (opc fn : BitVec 4), opc = 0x1#4 →
      fn ∈ [0x0#4, 0x4#4, 0x5#4, 0x6#4, 0x7#4, 0x8#4, 0xA#4, 0xC#4, 0xF#4] →
      writeCmd (opc ++ fn) s = .next { s with status := { s.status with err := 2 } }) ∧
  (∀ (s : State) (opc fn : BitVec 4), 0x2#4 ≤ opc → opc ≤ 0x8#4 → fn ≠ 0x0#4 →
      writeCmd (opc ++ fn) s = .next { s with status := { s.status with err := 1 } }) ∧
  (∀ (s : State) (opc fn : BitVec 4), 0x9#4 ≤ opc →
      writeCmd (opc ++ fn) s = .next { s with status := { s.status with err := 1 } }) ∧
  (List.range 256).countP (fun v => (decode (BitVec.ofNat 8 v)).isOk) = 14 ∧
  (List.range 256).countP (fun v => decide (v / 16 = 0)) = 16 ∧
  (List.range 256).countP (fun v => decide (decode (BitVec.ofNat 8 v) = .error .gfConst)) = 9 ∧
  (List.range 256).countP (fun v => decide (2 ≤ v / 16 ∧ v / 16 ≤ 8 ∧ v % 16 ≠ 0)) = 105 ∧
  (List.range 256).countP (fun v => decide (9 ≤ v / 16)) = 112

/-- R139: GFMUL with an unsupported constant writes code 2 into `ERR` and leaves "`GF_OUT` and every other register
unchanged". -/
def Obligations.UnsupportedConstantFailsFast : Prop :=
  ∀ v ∈ gfConstWords, ∀ s : State, writeCmd v s = .next { s with status := { s.status with err := 2 } }

/-! ### The step -/

/-- R40, R95: when the host's next transaction writes a word to `CMD` that decodes to a command, a step takes the
transaction off the input and is that command; when the word does not decode, the step writes the error's code. The model's
choices: that the transaction stands in `pending` (log 1), that the step clears `rdata` (log 2), and the whole third clause,
that the very next step runs a word placed by `withFetchWord` (log 9). -/
def Obligations.StepRunsTheDecodedCommand : Prop :=
  (∀ (s : State) (v : Byte) (i : Instr) (es : List HostEvent),
      s.pending = .write 0x038 v :: es → decode v = .ok i →
      step s = exec i { s with pending := es, rdata := none }) ∧
  (∀ (s : State) (v : Byte) (e : CmdError) (es : List HostEvent),
      s.pending = .write 0x038 v :: es → decode v = .error e →
      step s = .next { s with pending := es, rdata := none, status := { s.status with err := errCode e } }) ∧
  (∀ (s : State) (nbits w : Nat) (i : Instr), decodeTableWord nbits w = some i →
      step (s.withFetchWord nbits w) = exec i { s with rdata := none })

/-- R20, R62, R75, R292: with no event a step holds all state; a read changes nothing but the bus's answer; a host write
is the bus's write. That the events stand in `pending` and a read's byte in `rdata` is the model's choice (log 1, log 2,
log 10). -/
def Obligations.StepServesTheOldestEvent : Prop :=
  (∀ s : State, s.pending = [] → step s = .next s) ∧
  (∀ (s : State) (a : Addr) (es : List HostEvent), s.pending = .read a :: es →
      step s = .next { s with pending := es, rdata := some (busRead s a) }) ∧
  (∀ (s : State) (a : Addr) (v : Byte) (es : List HostEvent), s.pending = .write a v :: es →
      step s = hostEvent (.write a v) { s with pending := es, rdata := none })

/-- R270, R310: no command and no step stops the core. -/
def Obligations.NothingStopsTheCore : Prop :=
  (∀ (i : Instr) (s : State), ∃ t, exec i s = .next t) ∧ ∀ s : State, Runs s

/-! ### The GF(2^8) multiplier -/

/-- R132 to R138: the byte, the result, the flags, what stays unchanged and the corner values of each GFMUL command. -/
def Obligations.GfmulResults : Prop :=
  (∀ p ∈ [((0x11 : Byte), Instr.gfmul01), (0x12, .gfmul02), (0x13, .gfmul03), (0x19, .gfmul09), (0x1B, .gfmul0B),
      (0x1D, .gfmul0D), (0x1E, .gfmul0E)], decode p.1 = .ok p.2) ∧
  (∀ s : State,
    let b := s.gfIn
    let x2 := xtime b
    let x4 := xtime x2
    let x8 := xtime x4
    let done : Byte → Host.Outcome State Fault Refusal :=
      fun r => .next { s with gfOut := r, status := { s.status with err := 0 } }
    exec .gfmul01 s = done b ∧ exec .gfmul02 s = done x2 ∧ exec .gfmul03 s = done (x2 ^^^ b) ∧
    exec .gfmul09 s = done (x8 ^^^ b) ∧ exec .gfmul0B s = done (x8 ^^^ x2 ^^^ b) ∧
    exec .gfmul0D s = done (x8 ^^^ x4 ^^^ b) ∧ exec .gfmul0E s = done (x8 ^^^ x4 ^^^ x2)) ∧
  (∀ q ∈ [(GfConst.c01, (0x57 : Byte), (0x57 : Byte)), (.c02, 0x80, 0x1b), (.c02, 0xff, 0xe5), (.c02, 0x7f, 0xfe),
      (.c02, 0x57, 0xae), (.c03, 0x80, 0x9b), (.c03, 0xff, 0x1a), (.c03, 0x57, 0xf9), (.c09, 0x80, 0xec),
      (.c09, 0xff, 0x46), (.c09, 0x57, 0xd9), (.c0B, 0x80, 0xf7), (.c0B, 0xff, 0xa3), (.c0B, 0x57, 0x77),
      (.c0D, 0x80, 0xda), (.c0D, 0xff, 0x97), (.c0D, 0x57, 0x9e), (.c0E, 0x80, 0x41), (.c0E, 0xff, 0x8d),
      (.c0E, 0x01, 0x0e), (.c0E, 0x57, 0x67)], ∀ s : State, s.gfIn = q.2.1 →
        ∃ t, writeCmd (gfmulByte q.1) s = .next t ∧ t.gfOut = q.2.2)

/-- R140: the laws of `mul`. -/
def Obligations.MulIsTheFieldProduct : Prop :=
  ∀ c : GfConst,
    (∀ b, mul c b = gfProduct c.toByte b) ∧ (∀ b1 b2, mul c (b1 ^^^ b2) = mul c b1 ^^^ mul c b2) ∧
    mul c 0x00 = 0x00 ∧ mul c 0x01 = c.toByte ∧ ∀ b, mul .c03 b = mul .c02 b ^^^ b

/-- R132 to R138, R140: in every state, writing the byte `0x10 + c` to `CMD` leaves in `GF_OUT` the product of `c` and
`GF_IN` in GF(2^8), and issuing it again changes nothing. -/
def Obligations.GfmulMultipliesInTheField : Prop :=
  ∀ (c : GfConst) (s : State), ∃ t, writeCmd (gfmulByte c) s = .next t ∧
    t = { s with gfOut := gfProduct c.toByte s.gfIn, status := { s.status with err := 0 } } ∧
    writeCmd (gfmulByte c) t = .next t

/-! ### The key schedule -/

/-- R152, R155, R156: KEYEXP writes the whole schedule into `RK`, sets `RK_VALID`, and changes nothing else. -/
def Obligations.KeyexpWritesTheSchedule : Prop :=
  ∀ s : State, ∃ rk : Vector Word 44,
    exec .keyexp s = .next { s with rk := rk, status := { s.status with err := 0, rkValid := true } } ∧
    (∀ (i : Nat) (hi : i < 4),
      rk[i] = packBe s.key[4 * i] s.key[4 * i + 1] s.key[4 * i + 2] s.key[4 * i + 3]) ∧
    (∀ (i : Nat) (hi : 4 ≤ i ∧ i < 44),
      rk[i] = rk[i - 4] ^^^
        if i % 4 = 0 then subWord (rotWord rk[i - 1]) ^^^ ((rcon[i / 4 - 1]'(by omega)).setWidth 32 <<< 24)
        else rk[i - 1])

/-- R150, R151: the bytes of `RotWord` and `SubWord`, with the rules' examples. -/
def Obligations.WordStepsMoveBytes : Prop :=
  (∀ a0 a1 a2 a3 : Byte, rotWord (packBe a0 a1 a2 a3) = packBe a1 a2 a3 a0) ∧
  (∀ a0 a1 a2 a3 : Byte, subWord (packBe a0 a1 a2 a3) = packBe (sbox a0) (sbox a1) (sbox a2) (sbox a3)) ∧
  rotWord 0x09cf4f3c = 0xcf4f3c09 ∧ subWord 0xcf4f3c09 = 0x8a84eb01

/-- R154: "the contents of `RK` left by an earlier command are never an input to any command": the AES results depend on
`KEY` and `DIN` alone. -/
def Obligations.ScheduleIsDerivedAfresh : Prop :=
  ∀ s s' : State, s.key = s'.key → s.din = s'.din → ∀ i, isAes i → ∃ t t',
    exec i s = .next t ∧ exec i s' = .next t' ∧ t.rk = t'.rk ∧ (i ≠ .keyexp → t.dout = t'.dout)

/-! ### AES -/

/-- R115, R116, R117, R175: AES_ENC runs `Cipher` on `DIN` under the schedule KEYEXP would write. `S n` is the AES state
after round `n`; `a` is a column after SubBytes and ShiftRows. -/
def Obligations.AesEncRunsTheCipher : Prop :=
  ∀ s : State, ∃ (rk : Vector Word 44) (S : Fin 11 → AesState) (dout : Vector Byte 16),
    exec .aesEnc s =
      .next { s with rk := rk, dout := dout, status := { s.status with err := 0, rkValid := true } } ∧
    exec .keyexp s = .next { s with rk := rk, status := { s.status with err := 0, rkValid := true } } ∧
    (∀ i : Fin 16, (S 0)[i.val % 4][i.val / 4] = s.din[i] ^^^ (unpackBe rk[i.val / 4])[i.val % 4]) ∧
    (∀ (n : Fin 10) (row col : Fin 4),
      let a : Fin 4 → Byte := fun r => sbox (S n.castSucc)[r][col + r]
      (S n.succ)[row][col] =
        (if n.val + 1 < 10 then (mixColumn a)[row] else a row) ^^^ (unpackBe rk[4 * (n.val + 1) + col.val])[row]) ∧
    ∀ i : Fin 16, dout[i] = (S 10)[i.val % 4][i.val / 4]

/-- R115, R116, R117, R195: AES_DEC runs `InvCipher` on `DIN` under the schedule KEYEXP would write. `S n` is the AES
state after round `n`, counting down from 10; `a` is the state after InvShiftRows, InvSubBytes and AddRoundKey. -/
def Obligations.AesDecRunsTheInverseCipher : Prop :=
  ∀ s : State, ∃ (rk : Vector Word 44) (S : Fin 11 → AesState) (dout : Vector Byte 16),
    exec .aesDec s =
      .next { s with rk := rk, dout := dout, status := { s.status with err := 0, rkValid := true } } ∧
    exec .keyexp s = .next { s with rk := rk, status := { s.status with err := 0, rkValid := true } } ∧
    (∀ i : Fin 16, (S 10)[i.val % 4][i.val / 4] = s.din[i] ^^^ (unpackBe rk[40 + i.val / 4])[i.val % 4]) ∧
    (∀ (n : Fin 10) (row col : Fin 4),
      let a : Fin 4 → Byte :=
        fun r => invSbox (S n.succ)[r][col - r] ^^^ (unpackBe rk[4 * n.val + col.val])[r]
      (S n.castSucc)[row][col] = if 0 < n.val then (invMixColumn a)[row] else a row) ∧
    ∀ i : Fin 16, dout[i] = (S 0)[i.val % 4][i.val / 4]

/-- R196: decrypting the ciphertext under the same `KEY` gives the plaintext back, whatever else has happened to the
core in between. -/
def Obligations.DecryptUndoesEncrypt : Prop :=
  ∀ s t s' : State, exec .aesEnc s = .next t → s'.key = s.key → s'.din = t.dout →
    ∃ u, exec .aesDec s' = .next u ∧ u.dout = s.din

/-- The other direction of R196: encrypting what AES_DEC gave, under the same `KEY`, gives the block back. -/
def Obligations.EncryptUndoesDecrypt : Prop :=
  ∀ s t s' : State, exec .aesDec s = .next t → s'.key = s.key → s'.din = t.dout →
    ∃ u, exec .aesEnc s' = .next u ∧ u.dout = s.din

/-- R170, R177, R190, R191, R193: every inverse step undoes its step on every AES state, AddRoundKey undoes itself, and
SubBytes and ShiftRows commute. -/
def Obligations.InverseStepsUndoSteps : Prop :=
  ∀ s : AesState,
    invShiftRows (shiftRows s) = s ∧ shiftRows (invShiftRows s) = s ∧
    invSubBytes (subBytes s) = s ∧ subBytes (invSubBytes s) = s ∧
    invMixColumns (mixColumns s) = s ∧ mixColumns (invMixColumns s) = s ∧
    (∀ (rk : Vector Word 44) (r : Fin 11), addRoundKey rk r (addRoundKey rk r s) = s) ∧
    subBytes (shiftRows s) = shiftRows (subBytes s)

/-- R112: the unpacker's bytes, its two laws with the packer, and the rule's example. -/
def Obligations.PackerAndUnpackerAreInverse : Prop :=
  (∀ w : Word, unpackBe w = #v[w.extractLsb' 24 8, w.extractLsb' 16 8, w.extractLsb' 8 8, w.extractLsb' 0 8]) ∧
  (∀ b0 b1 b2 b3 : Byte, unpackBe (packBe b0 b1 b2 b3) = #v[b0, b1, b2, b3]) ∧
  (∀ w : Word, packBe (unpackBe w)[0] (unpackBe w)[1] (unpackBe w)[2] (unpackBe w)[3] = w) ∧
  unpackBe 0x01020304 = #v[0x01, 0x02, 0x03, 0x04]

/-- R115, R116: the AES state load and store, byte by byte, and their two laws. -/
def Obligations.StoreUndoesLoad : Prop :=
  (∀ (x : Vector Byte 16) (i : Fin 16), (loadState x)[i.val % 4][i.val / 4] = x[i]) ∧
  (∀ x : Vector Byte 16, storeState (loadState x) = x) ∧ ∀ s : AesState, loadState (storeState s) = s

/-- R47, R48: the S-box is the affine map of the field inverse, and the inverse S-box inverts it. -/
def Obligations.SboxIsTheAffineInverse : Prop :=
  (∀ a : Byte, ∃ y : Byte, (a = 0 → y = 0) ∧ (a ≠ 0 → gfProduct a y = 1) ∧ sbox a = sboxAffine y) ∧
  (∀ a : Byte, invSbox (sbox a) = a) ∧ ∀ a : Byte, sbox (invSbox a) = a

/-- R49: `RCON[0] = 0x01` and `RCON[j] = xtime(RCON[j-1])`. -/
def Obligations.RconByDoubling : Prop :=
  rcon[0] = 0x01 ∧ ∀ (j : Nat) (hj : 1 ≤ j ∧ j < 10), rcon[j] = xtime rcon[j - 1]

/-! ### SHA-256 -/

/-- R50, R51: `K[t]` is the first 32 bits of the fractional part of the cube root of the `t`-th prime, and `IV[j]` of
the square root of the `j`-th; that the list is of the first 64 primes is stated too. -/
def Obligations.ShaConstantsAreRootsOfPrimes : Prop :=
  firstPrimes = (List.range 312).filter Nat.Prime ∧
  (∀ (t : Nat) (ht : t < 64), ∃ n : Nat,
    n ^ 3 ≤ firstPrimes.getD t 0 * 2 ^ 96 ∧ firstPrimes.getD t 0 * 2 ^ 96 < (n + 1) ^ 3 ∧
    (kConst t ht).toNat = n % 2 ^ 32) ∧
  ∀ j : Fin 8, ∃ n : Nat,
    n ^ 2 ≤ firstPrimes.getD j.val 0 * 2 ^ 64 ∧ firstPrimes.getD j.val 0 * 2 ^ 64 < (n + 1) ^ 2 ∧
    iv[j].toNat = n % 2 ^ 32

/-- R210, R211, R212: rotation is `BitVec.rotateRight`; the mixing functions; `Ch` chooses and `Maj` takes the majority,
bit by bit. -/
def Obligations.WordFunctionsBitByBit : Prop :=
  (∀ (n : Nat) (x : Word), 0 < n → n < 32 → rotr n x = x.rotateRight n) ∧
  (∀ x : Word, smallSig0 x = x.rotateRight 7 ^^^ x.rotateRight 18 ^^^ (x >>> 3) ∧
    smallSig1 x = x.rotateRight 17 ^^^ x.rotateRight 19 ^^^ (x >>> 10) ∧
    bigSig0 x = x.rotateRight 2 ^^^ x.rotateRight 13 ^^^ x.rotateRight 22 ∧
    bigSig1 x = x.rotateRight 6 ^^^ x.rotateRight 11 ^^^ x.rotateRight 25) ∧
  (∀ (x y z : Word) (i : Nat), (ch x y z).getLsbD i = if x.getLsbD i then y.getLsbD i else z.getLsbD i) ∧
  ∀ (x y z : Word) (i : Nat), (maj x y z).getLsbD i =
    decide (2 ≤ (x.getLsbD i).toNat + (y.getLsbD i).toNat + (z.getLsbD i).toNat)

/-- R51, R218: SHA_INIT in every state writes `IV` into `H`, sets `H_VALID`, clears `W_VALID`, and changes nothing else. -/
def Obligations.ShaInitStartsAHash : Prop :=
  decode 0x50 = .ok .shaInit ∧
  ∀ s : State, exec .shaInit s =
    .next { s with
      h := #v[0x6a09e667, 0xbb67ae85, 0x3c6ef372, 0xa54ff53a, 0x510e527f, 0x9b05688c, 0x1f83d9ab, 0x5be0cd19],
      status := { s.status with err := 0, hValid := true, wValid := false } }

/-- R214, R222: SHA_SCHED in every state writes the schedule of `MSG` into `W`, sets `W_VALID`, and changes nothing else. -/
def Obligations.ShaSchedWritesTheSchedule : Prop :=
  ∀ s : State, ∃ w : Vector Word 64,
    exec .shaSched s = .next { s with w := w, status := { s.status with err := 0, wValid := true } } ∧
    (∀ (t : Nat) (ht : t < 16),
      w[t] = packBe s.msg[4 * t] s.msg[4 * t + 1] s.msg[4 * t + 2] s.msg[4 * t + 3]) ∧
    ∀ (t : Nat) (ht : 16 ≤ t ∧ t < 64),
      w[t] = smallSig1 w[t - 2] + w[t - 7] + smallSig0 w[t - 15] + w[t - 16]

/-- R215, R216: SHA_COMP, when both valid bits are set, runs 64 rounds from `H` over `W`, adds the working variables back,
clears `W_VALID`, and changes nothing else. `v n` are the working variables after `n` rounds. -/
def Obligations.ShaCompFoldsTheSchedule : Prop :=
  ∀ s : State, s.status.hValid = true → s.status.wValid = true →
    ∃ (v : Fin 65 → Vars) (h : Vector Word 8),
      exec .shaComp s = .next { s with h := h, status := { s.status with err := 0, wValid := false } } ∧
      v 0 = ⟨s.h[0], s.h[1], s.h[2], s.h[3], s.h[4], s.h[5], s.h[6], s.h[7]⟩ ∧
      (∀ n : Fin 64,
        let x := v n.castSucc
        let t1 := x.h + bigSig1 x.e + ch x.e x.f x.g + kConst n.val n.isLt + s.w[n]
        let t2 := bigSig0 x.a + maj x.a x.b x.c
        v n.succ = ⟨t1 + t2, x.a, x.b, x.c, x.d + t1, x.e, x.f, x.g⟩) ∧
      h = #v[s.h[0] + (v 64).a, s.h[1] + (v 64).b, s.h[2] + (v 64).c, s.h[3] + (v 64).d,
        s.h[4] + (v 64).e, s.h[5] + (v 64).f, s.h[6] + (v 64).g, s.h[7] + (v 64).h]

/-- R275, R277, R280: what SHA_COMP and SHA_BLOCK report when a precondition fails, the older one first, and that nothing
but `ERR` changes. -/
def Obligations.ShaPreconditionsInOrder : Prop :=
  (∀ s : State, s.status.hValid = false →
    exec .shaComp s = .next { s with status := { s.status with err := 4 } } ∧
    exec .shaBlock s = .next { s with status := { s.status with err := 4 } }) ∧
  ∀ s : State, s.status.hValid = true → s.status.wValid = false →
    exec .shaComp s = .next { s with status := { s.status with err := 3 } }

/-- R221: SHA_BLOCK completes whenever `H_VALID` is set, whatever `W_VALID` is, and leaves exactly the state that
SHA_SCHED followed by SHA_COMP leaves. -/
def Obligations.ShaBlockIsSchedThenComp : Prop :=
  ∀ s : State, s.status.hValid = true → ∃ t u,
    exec .shaSched s = .next t ∧ exec .shaComp t = .next u ∧ exec .shaBlock s = .next u ∧
    u.w = t.w ∧ u.status = { s.status with err := 0, wValid := false }

/-- R220: the schedule is consumed: after a SHA_COMP or SHA_BLOCK that succeeded, a SHA_COMP reports NO_SCHEDULE and
changes nothing else; a SHA_SCHED makes it succeed again. -/
def Obligations.ScheduleIsConsumedOnce : Prop :=
  ∀ (i : Instr) (s t : State), i = .shaComp ∨ i = .shaBlock → exec i s = .next t → t.status.err = 0 →
    exec .shaComp t = .next { t with status := { t.status with err := 3 } } ∧
    ∃ u v, exec .shaSched t = .next u ∧ exec .shaComp u = .next v ∧ v.status.err = 0

/-! ### The host register space -/

/-- R65: a host write to `KEY`, `DIN`, `GF_IN` or `MSG` is read back there, every other address reads as before, every
result register and `STATUS` is unchanged; "No command writes these registers". `pending` and `rdata`, named last, are the
model's own fields (log 1, log 2). -/
def Obligations.StorageReadsBack : Prop :=
  (∀ (s : State) (a : Addr) (v : Byte), inStorage a → ∃ t, hostEvent (.write a v) s = .next t ∧
    busRead t a = v ∧ (∀ b, b ≠ a → busRead t b = busRead s b) ∧
    t.dout = s.dout ∧ t.gfOut = s.gfOut ∧ t.status = s.status ∧ t.h = s.h ∧ t.rk = s.rk ∧ t.w = s.w ∧
    t.pending = s.pending ∧ t.rdata = s.rdata) ∧
  ∀ (v : Byte) (s t : State), writeCmd v s = .next t →
    t.key = s.key ∧ t.din = s.din ∧ t.gfIn = s.gfIn ∧ t.msg = s.msg

/-- R71, R72: a write to a reserved or read-only address changes no state at all, and a reserved address reads 0x00. -/
def Obligations.IgnoredWritesChangeNothing : Prop :=
  (∀ (s : State) (a : Addr) (v : Byte), inReserved a ∨ inReadOnly a → hostEvent (.write a v) s = .next s) ∧
  ∀ (s : State) (a : Addr), inReserved a → busRead s a = 0x00

/-- R68, R69, R70: each view address reads the byte of its word, most significant byte at the lowest address. -/
def Obligations.ViewsAreBigEndian : Prop :=
  (∀ (s : State) (j : Fin 8) (k : Fin 4), busRead s (BitVec.ofNat 10 (0x080 + 4 * j.val + k.val)) = (unpackBe s.h[j])[k] ∧
    (unpackBe s.h[j])[k] = s.h[j].extractLsb' (24 - 8 * k.val) 8) ∧
  (∀ (s : State) (i : Fin 44) (k : Fin 4),
    busRead s (BitVec.ofNat 10 (0x100 + 4 * i.val + k.val)) = (unpackBe s.rk[i])[k]) ∧
  ∀ (s : State) (t : Fin 64) (k : Fin 4),
    busRead s (BitVec.ofNat 10 (0x200 + 4 * t.val + k.val)) = (unpackBe s.w[t])[k]

/-- R36, R64, R65, R66: each byte register reads at its own address, and `CMD` reads 0x00. -/
def Obligations.RegistersReadAtTheirAddresses : Prop :=
  (∀ (s : State) (i : Fin 16), busRead s (BitVec.ofNat 10 i.val) = s.key[i] ∧
    busRead s (BitVec.ofNat 10 (0x010 + i.val)) = s.din[i] ∧
    busRead s (BitVec.ofNat 10 (0x020 + i.val)) = s.dout[i]) ∧
  (∀ (s : State) (i : Fin 64), busRead s (BitVec.ofNat 10 (0x040 + i.val)) = s.msg[i]) ∧
  ∀ s : State, busRead s 0x030 = s.gfIn ∧ busRead s 0x031 = s.gfOut ∧ busRead s 0x038 = 0x00 ∧
    busRead s 0x039 = s.status.toByte

/-- R33: the byte at 0x039: `ERR` in [2:0], `RK_VALID` in [3], `W_VALID` in [4], `H_VALID` in [5], zeros in [7:6]. -/
def Obligations.StatusByteLayout : Prop :=
  ∀ s : State,
    (busRead s 0x039).extractLsb' 0 3 = s.status.err ∧ (busRead s 0x039).getLsbD 3 = s.status.rkValid ∧
    (busRead s 0x039).getLsbD 4 = s.status.wValid ∧ (busRead s 0x039).getLsbD 5 = s.status.hValid ∧
    (busRead s 0x039).extractLsb' 6 2 = 0#2

/-- R75: "The only write with an effect beyond storing a byte is the write to `CMD`", and no read has a side effect on the
core. That a read leaves its byte in `rdata`, the one field it may change, is the model's choice (log 2). -/
def Obligations.OnlyCommandWritesHaveEffects : Prop :=
  (∀ (s : State) (a : Addr), ∃ b, hostEvent (.read a) s = .next { s with rdata := some b }) ∧
  ∀ (s : State) (a : Addr) (v : Byte), a ≠ 0x038 → ∃ t, hostEvent (.write a v) s = .next t ∧
    t = { s with key := t.key, din := t.din, gfIn := t.gfIn, msg := t.msg } ∧
    ∀ b, b ≠ a → busRead t b = busRead s b

/-! ### Frames and whole-machine rules -/

/-- R23: a command changes the byte read at no address but those of the registers its rule says it writes. -/
def Obligations.CommandsChangeOnlyTheirAddresses : Prop :=
  ∀ (i : Instr) (s : State), ∃ t, exec i s = .next t ∧ ∀ a, ¬ mayChange i a → busRead t a = busRead s a

/-- R309: what each unit may write, and that an AES or GF command between two commands of a hash changes neither the
words nor the valid bits the hash produces. -/
def Obligations.UnitsAreIndependent : Prop :=
  (∀ (i : Instr) (s t : State), isAes i → exec i s = .next t →
    t = { s with rk := t.rk, dout := t.dout, status := { s.status with err := t.status.err, rkValid := t.status.rkValid } } ∧
    (i = .keyexp → t.dout = s.dout)) ∧
  (∀ (i : Instr) (s t : State), isSha i → exec i s = .next t →
    t = { s with w := t.w, h := t.h, status := { t.status with rkValid := s.status.rkValid } }) ∧
  (∀ (i : Instr) (s t : State), isGf i → exec i s = .next t →
    t = { s with gfOut := t.gfOut, status := { s.status with err := t.status.err } }) ∧
  ∀ (i j : Instr) (s t u v : State), isAes i ∨ isGf i → isSha j → exec i s = .next t → exec j s = .next u →
    exec j t = .next v →
    v.h = u.h ∧ v.w = u.w ∧ v.status.wValid = u.status.wValid ∧ v.status.hValid = u.status.hValid ∧
    v.status.err = u.status.err

/-- R28 to R32: whatever byte is written to `CMD`, a result register changes only by a successful command of those that
write it. -/
def Obligations.ResultRegistersHaveTheirWriters : Prop :=
  ∀ (v : Byte) (s t : State), writeCmd v s = .next t →
    (t.dout ≠ s.dout → (v = 0x30 ∨ v = 0x40) ∧ t.status.err = 0) ∧
    (t.gfOut ≠ s.gfOut → v ∈ [0x11, 0x12, 0x13, 0x19, 0x1B, 0x1D, 0x1E] ∧ t.status.err = 0) ∧
    (t.rk ≠ s.rk → (v = 0x20 ∨ v = 0x30 ∨ v = 0x40) ∧ t.status.err = 0) ∧
    (t.w ≠ s.w → (v = 0x60 ∨ v = 0x80) ∧ t.status.err = 0) ∧
    (t.h ≠ s.h → (v = 0x50 ∨ v = 0x70 ∨ v = 0x80) ∧ t.status.err = 0)

/-- R33, R34: the valid bits "change only as the table of rule R33 says and only on a successful command". -/
def Obligations.ValidBitsFollowTheTable : Prop :=
  ∀ (v : Byte) (s : State), ∃ t, writeCmd v s = .next t ∧
    (t.status.err ≠ 0 → t.status.rkValid = s.status.rkValid ∧ t.status.wValid = s.status.wValid ∧
      t.status.hValid = s.status.hValid) ∧
    (t.status.err = 0 →
      t.status.rkValid = (s.status.rkValid || decide (v = 0x20 ∨ v = 0x30 ∨ v = 0x40)) ∧
      t.status.hValid = (s.status.hValid || decide (v = 0x50)) ∧
      t.status.wValid =
        if v = 0x60 then true else if v = 0x50 ∨ v = 0x70 ∨ v = 0x80 then false else s.status.wValid)

/-- R272, R280: the code every command word leaves in `ERR`, decode errors first, then NO_HASH_STATE, then NO_SCHEDULE. -/
def Obligations.ErrReportsTheOutcome : Prop :=
  ∀ (v : Byte) (s : State), ∃ t, writeCmd v s = .next t ∧
    t.status.err =
      if v ∈ gfConstWords then 2
      else if v ∉ validWords.map Prod.fst then 1
      else if (v = 0x70 ∨ v = 0x80) ∧ s.status.hValid = false then 4
      else if v = 0x70 ∧ s.status.wValid = false then 3
      else 0

/-- R271: a command that fails, whatever word it is and whatever the state, changes `ERR` and nothing else. -/
def Obligations.FailedCommandChangesOnlyErr : Prop :=
  ∀ (v : Byte) (s t : State), writeCmd v s = .next t → t.status.err ≠ 0 →
    t = { s with status := { s.status with err := t.status.err } }

/-- R33, D11: a step clears `H_VALID` or `RK_VALID` only when the event it serves is a reset. -/
def Obligations.ValidBitsStandUntilReset : Prop :=
  ∀ s t : State, step s = .next t →
    (s.status.hValid = true ∧ t.status.hValid = false) ∨ (s.status.rkValid = true ∧ t.status.rkValid = false) →
    ∃ e es, s.pending = e :: es ∧ ((∃ d, e = .reset d) ∨ ∃ a v d, e = .resetDuring a v d)

/-- R157, R176, R194, R218, R219: repeating any command but SHA_COMP and SHA_BLOCK changes nothing more. -/
def Obligations.RepeatedCommandChangesNothing : Prop :=
  ∀ (i : Instr) (s : State), i ≠ .shaComp → i ≠ .shaBlock →
    ∃ t, exec i s = .next t ∧ exec i t = .next t

/-! ### Reset and the invariant -/

/-- R301, R302: after a reset, also one that cuts a write short, `STATUS` is zero in every field, every data register holds
the draw, and nothing of a command is left. That the draw stands in the event, and the fields `pending` and `rdata`, are the
model's choice (log 1, log 2, log 4). -/
def Obligations.ResetLeavesTheResetState : Prop :=
  ∀ (s : State) (e : HostEvent) (es : List HostEvent) (d : Draw),
    s.pending = e :: es → (e = .reset d ∨ ∃ a v, e = .resetDuring a v d) →
    ∃ t, step s = .next t ∧ t.status = ⟨0, false, false, false⟩ ∧ busRead t 0x039 = 0x00 ∧
      t.key = d.key ∧ t.din = d.din ∧ t.msg = d.msg ∧ t.gfIn = d.gfIn ∧ t.dout = d.dout ∧ t.gfOut = d.gfOut ∧
      t.rk = d.rk ∧ t.w = d.w ∧ t.h = d.h ∧ t.pending = es ∧ t.rdata = none

/-- The model's choice (log 1, log 2, log 3): every data register of `State.reset` holds zeros, nothing is pending and nothing
read; every host address reads 0x00 in it. Of the values only those of `STATUS` are the spec's (R301). -/
def Obligations.ResetIsTheZeroDraw : Prop :=
  State.reset.key = Vector.replicate 16 0 ∧ State.reset.din = Vector.replicate 16 0 ∧
  State.reset.dout = Vector.replicate 16 0 ∧ State.reset.gfIn = 0 ∧ State.reset.gfOut = 0 ∧
  State.reset.msg = Vector.replicate 64 0 ∧ State.reset.h = Vector.replicate 8 0 ∧
  State.reset.rk = Vector.replicate 44 0 ∧ State.reset.w = Vector.replicate 64 0 ∧
  State.reset.status = ⟨0, false, false, false⟩ ∧ State.reset.pending = [] ∧ State.reset.rdata = none ∧
  (∀ a : Addr, busRead State.reset a = 0x00) ∧ State.reset = State.resetWith Config.zeroDraw []

/-- The invariant `CoreInv` holds in the reset state of every draw. -/
def Obligations.InvHoldsAtReset : Prop :=
  ∀ (d : Draw) (es : List HostEvent), CoreInv (State.resetWith d es)

/-- R33, R35: every step keeps `CoreInv`: `ERR` never holds a reserved code, and a register file whose valid bit is set holds
a schedule. -/
def Obligations.StepKeepsInv : Prop :=
  ∀ s t : State, CoreInv s → step s = .next t → CoreInv t

/-! ### Host procedures -/

/-- R99: running LOADKEY, LOADDIN or LOADMSG from any state leaves the bytes in the register and changes nothing else.
That the transactions stand in `pending`, and the field `rdata`, are the model's choice (log 1, log 2). -/
def Obligations.LoadScriptsFillTheirRegister : Prop :=
  (∀ (s : State) (k : Vector Byte 16) (es : List HostEvent),
    Sys2Proof.core.run 16 (s.setPending (loadKey k ++ es)) = .next { s with key := k, pending := es, rdata := none }) ∧
  (∀ (s : State) (d : Vector Byte 16) (es : List HostEvent),
    Sys2Proof.core.run 16 (s.setPending (loadDin d ++ es)) = .next { s with din := d, pending := es, rdata := none }) ∧
  ∀ (s : State) (m : Vector Byte 64) (es : List HostEvent),
    Sys2Proof.core.run 64 (s.setPending (loadMsg m ++ es)) = .next { s with msg := m, pending := es, rdata := none }

/-- R251, R252, R253: the padded message is the message, 0x80, zeros and the 64-bit big-endian bit length; its length is
the least multiple of 64 that holds at least 9 more bytes; a message of 2^61 bytes or more is refused. -/
def Obligations.PaddingFillsWholeBlocks : Prop :=
  (∀ m : List Byte, m.length < 2 ^ 61 → ∃ z field,
    pad m = some (m ++ [0x80] ++ List.replicate z 0x00 ++ field) ∧ field.length = 8 ∧
    field.foldl (fun n (b : Byte) => 256 * n + b.toNat) 0 = 8 * m.length ∧
    z < 64 ∧ m.length + 1 + z + 8 = 64 * ((m.length + 8) / 64 + 1) ∧
    (m.length % 64 < 56 → (m.length + 8) / 64 + 1 = m.length / 64 + 1) ∧
    (56 ≤ m.length % 64 → (m.length + 8) / 64 + 1 = m.length / 64 + 2)) ∧
  ∀ m : List Byte, 2 ^ 61 ≤ m.length → pad m = none

/-- R253, R255: the file variant presents the same message blocks as the padded message, its scripts are those of the message
in memory, and a file of 2^61 bytes or more is refused. -/
def Obligations.FileBlocksAreThePaddedBlocks : Prop :=
  (∀ m : List Byte, fileBlocks m = (pad m).map blocks) ∧
  (∀ m : List Byte, hashFileScript m = hashScript m ∧ hashFileScriptSplit m = hashScriptSplit m) ∧
  ∀ m : List Byte, 2 ^ 61 ≤ m.length → fileBlocks m = none ∧ hashFileScript m = none ∧ hashFileScriptSplit m = none

/-! ### What is not state -/

/-- R21, R52: the host program is no state of the core. A command and a read depend on the core's record alone, a host event on
the record and the event alone, and neither touches `pending`. That the record stands beside `pending` and `rdata` in one
`State` is the model's choice (log 1, log 2). -/
def Obligations.HostProgramIsNoCoreState : Prop :=
  ∀ s s' : State, s.toCoreState = s'.toCoreState →
    (∀ i : Instr, ∃ t t', exec i s = .next t ∧ exec i s' = .next t' ∧ t.toCoreState = t'.toCoreState ∧
      t.pending = s.pending ∧ t.rdata = s.rdata) ∧
    (∀ e : HostEvent, ∃ t t', hostEvent e s = .next t ∧ hostEvent e s' = .next t' ∧ t.toCoreState = t'.toCoreState ∧
      t.pending = s.pending) ∧
    ∀ a : Addr, busRead s a = busRead s' a
end

