-- ==== Sys2Proof/Laws/Aes.lean ====
section
/-! SUPPORT. The AES state matrix and the round steps, entry by entry. -/

namespace Sys2Proof.Machine

/-- The entry at row `r`, column `c` of a matrix given by a function. -/
@[simp] theorem AesState.ofFn_entry (f : Fin 4 → Fin 4 → Byte) (r c : Fin 4) : (AesState.ofFn f)[r][c] = f r c := by
  simp [AesState.ofFn]

/-- The same entry under numeric indices. -/
@[simp] theorem AesState.ofFn_entry_nat (f : Fin 4 → Fin 4 → Byte) (r c : Nat) (hr : r < 4) (hc : c < 4) :
    (AesState.ofFn f)[r][c] = f ⟨r, hr⟩ ⟨c, hc⟩ := by
  simp [AesState.ofFn]

/-- Two matrices with the same entries are equal. -/
theorem AesState.ext_entry {s t : AesState} (h : ∀ r c : Fin 4, s[r][c] = t[r][c]) : s = t := by
  apply Vector.ext
  intro r hr
  apply Vector.ext
  intro c hc
  exact h ⟨r, hr⟩ ⟨c, hc⟩

@[simp] theorem addRoundKey_entry (rk : Vector Word 44) (n : Fin 11) (s : AesState) (r c : Fin 4) :
    (addRoundKey rk n s)[r][c] = s[r][c] ^^^ rkByte rk n r c := by
  simp only [addRoundKey, AesState.ofFn_entry]

@[simp] theorem subBytes_entry (s : AesState) (r c : Fin 4) : (subBytes s)[r][c] = sbox s[r][c] := by
  simp only [subBytes, AesState.ofFn_entry]

@[simp] theorem invSubBytes_entry (s : AesState) (r c : Fin 4) : (invSubBytes s)[r][c] = invSbox s[r][c] := by
  simp only [invSubBytes, AesState.ofFn_entry]

@[simp] theorem shiftRows_entry (s : AesState) (r c : Fin 4) : (shiftRows s)[r][c] = s[r][c + r] := by
  simp only [shiftRows, AesState.ofFn_entry]

@[simp] theorem invShiftRows_entry (s : AesState) (r c : Fin 4) : (invShiftRows s)[r][c] = s[r][c - r] := by
  simp only [invShiftRows, AesState.ofFn_entry]

/-- A column matrix applied to a state, entry by entry (R174, R193). -/
theorem mulColumns_entry (m : Vector (Vector GfConst 4) 4) (s : AesState) (r c : Fin 4) :
    (mulColumns m s)[r][c] =
      mul m[r][0] s[0][c] ^^^ mul m[r][1] s[1][c] ^^^ mul m[r][2] s[2][c] ^^^ mul m[r][3] s[3][c] := by
  simp only [mulColumns, AesState.ofFn_entry]

/-- The state loaded from a block, entry by entry (R115). -/
@[simp] theorem loadState_entry (x : Vector Byte 16) (r c : Fin 4) : (loadState x)[r][c] = x[4 * c.val + r.val] := by
  simp only [loadState, AesState.ofFn_entry]

/-- The block stored from a state, byte by byte (R116). -/
@[simp] theorem storeState_byte (s : AesState) (i : Nat) (hi : i < 16) : (storeState s)[i] = s[i % 4][i / 4] := by
  simp only [storeState, Vector.getElem_ofFn]

end Sys2Proof.Machine
end

