-- ==== Sys2Proof/Laws/State.lean ====
section
/-! SUPPORT. One lemma per field per update of the state, each true by rfl. -/

namespace Sys2Proof.Machine

variable (s : State)

@[simp] theorem State.setErr_key (c : BitVec 3) : (s.setErr c).key = s.key := rfl
@[simp] theorem State.setErr_din (c : BitVec 3) : (s.setErr c).din = s.din := rfl
@[simp] theorem State.setErr_dout (c : BitVec 3) : (s.setErr c).dout = s.dout := rfl
@[simp] theorem State.setErr_gfIn (c : BitVec 3) : (s.setErr c).gfIn = s.gfIn := rfl
@[simp] theorem State.setErr_gfOut (c : BitVec 3) : (s.setErr c).gfOut = s.gfOut := rfl
@[simp] theorem State.setErr_status (c : BitVec 3) : (s.setErr c).status = { s.status with err := c } := rfl
@[simp] theorem State.setErr_msg (c : BitVec 3) : (s.setErr c).msg = s.msg := rfl
@[simp] theorem State.setErr_h (c : BitVec 3) : (s.setErr c).h = s.h := rfl
@[simp] theorem State.setErr_rk (c : BitVec 3) : (s.setErr c).rk = s.rk := rfl
@[simp] theorem State.setErr_w (c : BitVec 3) : (s.setErr c).w = s.w := rfl
@[simp] theorem State.setErr_pending (c : BitVec 3) : (s.setErr c).pending = s.pending := rfl
@[simp] theorem State.setErr_rdata (c : BitVec 3) : (s.setErr c).rdata = s.rdata := rfl

@[simp] theorem State.setRkValid_key (b : Bool) : (s.setRkValid b).key = s.key := rfl
@[simp] theorem State.setRkValid_din (b : Bool) : (s.setRkValid b).din = s.din := rfl
@[simp] theorem State.setRkValid_dout (b : Bool) : (s.setRkValid b).dout = s.dout := rfl
@[simp] theorem State.setRkValid_gfIn (b : Bool) : (s.setRkValid b).gfIn = s.gfIn := rfl
@[simp] theorem State.setRkValid_gfOut (b : Bool) : (s.setRkValid b).gfOut = s.gfOut := rfl
@[simp] theorem State.setRkValid_status (b : Bool) : (s.setRkValid b).status = { s.status with rkValid := b } := rfl
@[simp] theorem State.setRkValid_msg (b : Bool) : (s.setRkValid b).msg = s.msg := rfl
@[simp] theorem State.setRkValid_h (b : Bool) : (s.setRkValid b).h = s.h := rfl
@[simp] theorem State.setRkValid_rk (b : Bool) : (s.setRkValid b).rk = s.rk := rfl
@[simp] theorem State.setRkValid_w (b : Bool) : (s.setRkValid b).w = s.w := rfl
@[simp] theorem State.setRkValid_pending (b : Bool) : (s.setRkValid b).pending = s.pending := rfl
@[simp] theorem State.setRkValid_rdata (b : Bool) : (s.setRkValid b).rdata = s.rdata := rfl

@[simp] theorem State.setWValid_key (b : Bool) : (s.setWValid b).key = s.key := rfl
@[simp] theorem State.setWValid_din (b : Bool) : (s.setWValid b).din = s.din := rfl
@[simp] theorem State.setWValid_dout (b : Bool) : (s.setWValid b).dout = s.dout := rfl
@[simp] theorem State.setWValid_gfIn (b : Bool) : (s.setWValid b).gfIn = s.gfIn := rfl
@[simp] theorem State.setWValid_gfOut (b : Bool) : (s.setWValid b).gfOut = s.gfOut := rfl
@[simp] theorem State.setWValid_status (b : Bool) : (s.setWValid b).status = { s.status with wValid := b } := rfl
@[simp] theorem State.setWValid_msg (b : Bool) : (s.setWValid b).msg = s.msg := rfl
@[simp] theorem State.setWValid_h (b : Bool) : (s.setWValid b).h = s.h := rfl
@[simp] theorem State.setWValid_rk (b : Bool) : (s.setWValid b).rk = s.rk := rfl
@[simp] theorem State.setWValid_w (b : Bool) : (s.setWValid b).w = s.w := rfl
@[simp] theorem State.setWValid_pending (b : Bool) : (s.setWValid b).pending = s.pending := rfl
@[simp] theorem State.setWValid_rdata (b : Bool) : (s.setWValid b).rdata = s.rdata := rfl

@[simp] theorem State.setHValid_key (b : Bool) : (s.setHValid b).key = s.key := rfl
@[simp] theorem State.setHValid_din (b : Bool) : (s.setHValid b).din = s.din := rfl
@[simp] theorem State.setHValid_dout (b : Bool) : (s.setHValid b).dout = s.dout := rfl
@[simp] theorem State.setHValid_gfIn (b : Bool) : (s.setHValid b).gfIn = s.gfIn := rfl
@[simp] theorem State.setHValid_gfOut (b : Bool) : (s.setHValid b).gfOut = s.gfOut := rfl
@[simp] theorem State.setHValid_status (b : Bool) : (s.setHValid b).status = { s.status with hValid := b } := rfl
@[simp] theorem State.setHValid_msg (b : Bool) : (s.setHValid b).msg = s.msg := rfl
@[simp] theorem State.setHValid_h (b : Bool) : (s.setHValid b).h = s.h := rfl
@[simp] theorem State.setHValid_rk (b : Bool) : (s.setHValid b).rk = s.rk := rfl
@[simp] theorem State.setHValid_w (b : Bool) : (s.setHValid b).w = s.w := rfl
@[simp] theorem State.setHValid_pending (b : Bool) : (s.setHValid b).pending = s.pending := rfl
@[simp] theorem State.setHValid_rdata (b : Bool) : (s.setHValid b).rdata = s.rdata := rfl

@[simp] theorem State.setKeyByte_key (i : Fin 16) (v : Byte) : (s.setKeyByte i v).key = s.key.set i v := rfl
@[simp] theorem State.setKeyByte_din (i : Fin 16) (v : Byte) : (s.setKeyByte i v).din = s.din := rfl
@[simp] theorem State.setKeyByte_dout (i : Fin 16) (v : Byte) : (s.setKeyByte i v).dout = s.dout := rfl
@[simp] theorem State.setKeyByte_gfIn (i : Fin 16) (v : Byte) : (s.setKeyByte i v).gfIn = s.gfIn := rfl
@[simp] theorem State.setKeyByte_gfOut (i : Fin 16) (v : Byte) : (s.setKeyByte i v).gfOut = s.gfOut := rfl
@[simp] theorem State.setKeyByte_status (i : Fin 16) (v : Byte) : (s.setKeyByte i v).status = s.status := rfl
@[simp] theorem State.setKeyByte_msg (i : Fin 16) (v : Byte) : (s.setKeyByte i v).msg = s.msg := rfl
@[simp] theorem State.setKeyByte_h (i : Fin 16) (v : Byte) : (s.setKeyByte i v).h = s.h := rfl
@[simp] theorem State.setKeyByte_rk (i : Fin 16) (v : Byte) : (s.setKeyByte i v).rk = s.rk := rfl
@[simp] theorem State.setKeyByte_w (i : Fin 16) (v : Byte) : (s.setKeyByte i v).w = s.w := rfl
@[simp] theorem State.setKeyByte_pending (i : Fin 16) (v : Byte) : (s.setKeyByte i v).pending = s.pending := rfl
@[simp] theorem State.setKeyByte_rdata (i : Fin 16) (v : Byte) : (s.setKeyByte i v).rdata = s.rdata := rfl

@[simp] theorem State.setDinByte_key (i : Fin 16) (v : Byte) : (s.setDinByte i v).key = s.key := rfl
@[simp] theorem State.setDinByte_din (i : Fin 16) (v : Byte) : (s.setDinByte i v).din = s.din.set i v := rfl
@[simp] theorem State.setDinByte_dout (i : Fin 16) (v : Byte) : (s.setDinByte i v).dout = s.dout := rfl
@[simp] theorem State.setDinByte_gfIn (i : Fin 16) (v : Byte) : (s.setDinByte i v).gfIn = s.gfIn := rfl
@[simp] theorem State.setDinByte_gfOut (i : Fin 16) (v : Byte) : (s.setDinByte i v).gfOut = s.gfOut := rfl
@[simp] theorem State.setDinByte_status (i : Fin 16) (v : Byte) : (s.setDinByte i v).status = s.status := rfl
@[simp] theorem State.setDinByte_msg (i : Fin 16) (v : Byte) : (s.setDinByte i v).msg = s.msg := rfl
@[simp] theorem State.setDinByte_h (i : Fin 16) (v : Byte) : (s.setDinByte i v).h = s.h := rfl
@[simp] theorem State.setDinByte_rk (i : Fin 16) (v : Byte) : (s.setDinByte i v).rk = s.rk := rfl
@[simp] theorem State.setDinByte_w (i : Fin 16) (v : Byte) : (s.setDinByte i v).w = s.w := rfl
@[simp] theorem State.setDinByte_pending (i : Fin 16) (v : Byte) : (s.setDinByte i v).pending = s.pending := rfl
@[simp] theorem State.setDinByte_rdata (i : Fin 16) (v : Byte) : (s.setDinByte i v).rdata = s.rdata := rfl

@[simp] theorem State.setMsgByte_key (i : Fin 64) (v : Byte) : (s.setMsgByte i v).key = s.key := rfl
@[simp] theorem State.setMsgByte_din (i : Fin 64) (v : Byte) : (s.setMsgByte i v).din = s.din := rfl
@[simp] theorem State.setMsgByte_dout (i : Fin 64) (v : Byte) : (s.setMsgByte i v).dout = s.dout := rfl
@[simp] theorem State.setMsgByte_gfIn (i : Fin 64) (v : Byte) : (s.setMsgByte i v).gfIn = s.gfIn := rfl
@[simp] theorem State.setMsgByte_gfOut (i : Fin 64) (v : Byte) : (s.setMsgByte i v).gfOut = s.gfOut := rfl
@[simp] theorem State.setMsgByte_status (i : Fin 64) (v : Byte) : (s.setMsgByte i v).status = s.status := rfl
@[simp] theorem State.setMsgByte_msg (i : Fin 64) (v : Byte) : (s.setMsgByte i v).msg = s.msg.set i v := rfl
@[simp] theorem State.setMsgByte_h (i : Fin 64) (v : Byte) : (s.setMsgByte i v).h = s.h := rfl
@[simp] theorem State.setMsgByte_rk (i : Fin 64) (v : Byte) : (s.setMsgByte i v).rk = s.rk := rfl
@[simp] theorem State.setMsgByte_w (i : Fin 64) (v : Byte) : (s.setMsgByte i v).w = s.w := rfl
@[simp] theorem State.setMsgByte_pending (i : Fin 64) (v : Byte) : (s.setMsgByte i v).pending = s.pending := rfl
@[simp] theorem State.setMsgByte_rdata (i : Fin 64) (v : Byte) : (s.setMsgByte i v).rdata = s.rdata := rfl

@[simp] theorem State.setGfIn_key (v : Byte) : (s.setGfIn v).key = s.key := rfl
@[simp] theorem State.setGfIn_din (v : Byte) : (s.setGfIn v).din = s.din := rfl
@[simp] theorem State.setGfIn_dout (v : Byte) : (s.setGfIn v).dout = s.dout := rfl
@[simp] theorem State.setGfIn_gfIn (v : Byte) : (s.setGfIn v).gfIn = v := rfl
@[simp] theorem State.setGfIn_gfOut (v : Byte) : (s.setGfIn v).gfOut = s.gfOut := rfl
@[simp] theorem State.setGfIn_status (v : Byte) : (s.setGfIn v).status = s.status := rfl
@[simp] theorem State.setGfIn_msg (v : Byte) : (s.setGfIn v).msg = s.msg := rfl
@[simp] theorem State.setGfIn_h (v : Byte) : (s.setGfIn v).h = s.h := rfl
@[simp] theorem State.setGfIn_rk (v : Byte) : (s.setGfIn v).rk = s.rk := rfl
@[simp] theorem State.setGfIn_w (v : Byte) : (s.setGfIn v).w = s.w := rfl
@[simp] theorem State.setGfIn_pending (v : Byte) : (s.setGfIn v).pending = s.pending := rfl
@[simp] theorem State.setGfIn_rdata (v : Byte) : (s.setGfIn v).rdata = s.rdata := rfl

@[simp] theorem State.setGfOut_key (v : Byte) : (s.setGfOut v).key = s.key := rfl
@[simp] theorem State.setGfOut_din (v : Byte) : (s.setGfOut v).din = s.din := rfl
@[simp] theorem State.setGfOut_dout (v : Byte) : (s.setGfOut v).dout = s.dout := rfl
@[simp] theorem State.setGfOut_gfIn (v : Byte) : (s.setGfOut v).gfIn = s.gfIn := rfl
@[simp] theorem State.setGfOut_gfOut (v : Byte) : (s.setGfOut v).gfOut = v := rfl
@[simp] theorem State.setGfOut_status (v : Byte) : (s.setGfOut v).status = s.status := rfl
@[simp] theorem State.setGfOut_msg (v : Byte) : (s.setGfOut v).msg = s.msg := rfl
@[simp] theorem State.setGfOut_h (v : Byte) : (s.setGfOut v).h = s.h := rfl
@[simp] theorem State.setGfOut_rk (v : Byte) : (s.setGfOut v).rk = s.rk := rfl
@[simp] theorem State.setGfOut_w (v : Byte) : (s.setGfOut v).w = s.w := rfl
@[simp] theorem State.setGfOut_pending (v : Byte) : (s.setGfOut v).pending = s.pending := rfl
@[simp] theorem State.setGfOut_rdata (v : Byte) : (s.setGfOut v).rdata = s.rdata := rfl

@[simp] theorem State.setDout_key (v : Vector Byte 16) : (s.setDout v).key = s.key := rfl
@[simp] theorem State.setDout_din (v : Vector Byte 16) : (s.setDout v).din = s.din := rfl
@[simp] theorem State.setDout_dout (v : Vector Byte 16) : (s.setDout v).dout = v := rfl
@[simp] theorem State.setDout_gfIn (v : Vector Byte 16) : (s.setDout v).gfIn = s.gfIn := rfl
@[simp] theorem State.setDout_gfOut (v : Vector Byte 16) : (s.setDout v).gfOut = s.gfOut := rfl
@[simp] theorem State.setDout_status (v : Vector Byte 16) : (s.setDout v).status = s.status := rfl
@[simp] theorem State.setDout_msg (v : Vector Byte 16) : (s.setDout v).msg = s.msg := rfl
@[simp] theorem State.setDout_h (v : Vector Byte 16) : (s.setDout v).h = s.h := rfl
@[simp] theorem State.setDout_rk (v : Vector Byte 16) : (s.setDout v).rk = s.rk := rfl
@[simp] theorem State.setDout_w (v : Vector Byte 16) : (s.setDout v).w = s.w := rfl
@[simp] theorem State.setDout_pending (v : Vector Byte 16) : (s.setDout v).pending = s.pending := rfl
@[simp] theorem State.setDout_rdata (v : Vector Byte 16) : (s.setDout v).rdata = s.rdata := rfl

@[simp] theorem State.setRk_key (v : Vector Word 44) : (s.setRk v).key = s.key := rfl
@[simp] theorem State.setRk_din (v : Vector Word 44) : (s.setRk v).din = s.din := rfl
@[simp] theorem State.setRk_dout (v : Vector Word 44) : (s.setRk v).dout = s.dout := rfl
@[simp] theorem State.setRk_gfIn (v : Vector Word 44) : (s.setRk v).gfIn = s.gfIn := rfl
@[simp] theorem State.setRk_gfOut (v : Vector Word 44) : (s.setRk v).gfOut = s.gfOut := rfl
@[simp] theorem State.setRk_status (v : Vector Word 44) : (s.setRk v).status = s.status := rfl
@[simp] theorem State.setRk_msg (v : Vector Word 44) : (s.setRk v).msg = s.msg := rfl
@[simp] theorem State.setRk_h (v : Vector Word 44) : (s.setRk v).h = s.h := rfl
@[simp] theorem State.setRk_rk (v : Vector Word 44) : (s.setRk v).rk = v := rfl
@[simp] theorem State.setRk_w (v : Vector Word 44) : (s.setRk v).w = s.w := rfl
@[simp] theorem State.setRk_pending (v : Vector Word 44) : (s.setRk v).pending = s.pending := rfl
@[simp] theorem State.setRk_rdata (v : Vector Word 44) : (s.setRk v).rdata = s.rdata := rfl

@[simp] theorem State.setW_key (v : Vector Word 64) : (s.setW v).key = s.key := rfl
@[simp] theorem State.setW_din (v : Vector Word 64) : (s.setW v).din = s.din := rfl
@[simp] theorem State.setW_dout (v : Vector Word 64) : (s.setW v).dout = s.dout := rfl
@[simp] theorem State.setW_gfIn (v : Vector Word 64) : (s.setW v).gfIn = s.gfIn := rfl
@[simp] theorem State.setW_gfOut (v : Vector Word 64) : (s.setW v).gfOut = s.gfOut := rfl
@[simp] theorem State.setW_status (v : Vector Word 64) : (s.setW v).status = s.status := rfl
@[simp] theorem State.setW_msg (v : Vector Word 64) : (s.setW v).msg = s.msg := rfl
@[simp] theorem State.setW_h (v : Vector Word 64) : (s.setW v).h = s.h := rfl
@[simp] theorem State.setW_rk (v : Vector Word 64) : (s.setW v).rk = s.rk := rfl
@[simp] theorem State.setW_w (v : Vector Word 64) : (s.setW v).w = v := rfl
@[simp] theorem State.setW_pending (v : Vector Word 64) : (s.setW v).pending = s.pending := rfl
@[simp] theorem State.setW_rdata (v : Vector Word 64) : (s.setW v).rdata = s.rdata := rfl

@[simp] theorem State.setH_key (v : Vector Word 8) : (s.setH v).key = s.key := rfl
@[simp] theorem State.setH_din (v : Vector Word 8) : (s.setH v).din = s.din := rfl
@[simp] theorem State.setH_dout (v : Vector Word 8) : (s.setH v).dout = s.dout := rfl
@[simp] theorem State.setH_gfIn (v : Vector Word 8) : (s.setH v).gfIn = s.gfIn := rfl
@[simp] theorem State.setH_gfOut (v : Vector Word 8) : (s.setH v).gfOut = s.gfOut := rfl
@[simp] theorem State.setH_status (v : Vector Word 8) : (s.setH v).status = s.status := rfl
@[simp] theorem State.setH_msg (v : Vector Word 8) : (s.setH v).msg = s.msg := rfl
@[simp] theorem State.setH_h (v : Vector Word 8) : (s.setH v).h = v := rfl
@[simp] theorem State.setH_rk (v : Vector Word 8) : (s.setH v).rk = s.rk := rfl
@[simp] theorem State.setH_w (v : Vector Word 8) : (s.setH v).w = s.w := rfl
@[simp] theorem State.setH_pending (v : Vector Word 8) : (s.setH v).pending = s.pending := rfl
@[simp] theorem State.setH_rdata (v : Vector Word 8) : (s.setH v).rdata = s.rdata := rfl

@[simp] theorem State.setRdata_key (v : Option Byte) : (s.setRdata v).key = s.key := rfl
@[simp] theorem State.setRdata_din (v : Option Byte) : (s.setRdata v).din = s.din := rfl
@[simp] theorem State.setRdata_dout (v : Option Byte) : (s.setRdata v).dout = s.dout := rfl
@[simp] theorem State.setRdata_gfIn (v : Option Byte) : (s.setRdata v).gfIn = s.gfIn := rfl
@[simp] theorem State.setRdata_gfOut (v : Option Byte) : (s.setRdata v).gfOut = s.gfOut := rfl
@[simp] theorem State.setRdata_status (v : Option Byte) : (s.setRdata v).status = s.status := rfl
@[simp] theorem State.setRdata_msg (v : Option Byte) : (s.setRdata v).msg = s.msg := rfl
@[simp] theorem State.setRdata_h (v : Option Byte) : (s.setRdata v).h = s.h := rfl
@[simp] theorem State.setRdata_rk (v : Option Byte) : (s.setRdata v).rk = s.rk := rfl
@[simp] theorem State.setRdata_w (v : Option Byte) : (s.setRdata v).w = s.w := rfl
@[simp] theorem State.setRdata_pending (v : Option Byte) : (s.setRdata v).pending = s.pending := rfl
@[simp] theorem State.setRdata_rdata (v : Option Byte) : (s.setRdata v).rdata = v := rfl

/-- What the host puts on the bus and gets from it is no part of the core's record (R52). -/
@[simp] theorem State.setPending_toCoreState (es : List HostEvent) : (s.setPending es).toCoreState = s.toCoreState := rfl
@[simp] theorem State.setRdata_toCoreState (v : Option Byte) : (s.setRdata v).toCoreState = s.toCoreState := rfl

/-- Two states with the same core record differ in the model's own two fields at most. -/
theorem State.eq_of_toCoreState {s t : State} (h : s.toCoreState = t.toCoreState) :
    t = (s.setPending t.pending).setRdata t.rdata := by
  cases s; cases t; cases h; rfl

@[simp] theorem State.setPending_key (es : List HostEvent) : (s.setPending es).key = s.key := rfl
@[simp] theorem State.setPending_din (es : List HostEvent) : (s.setPending es).din = s.din := rfl
@[simp] theorem State.setPending_dout (es : List HostEvent) : (s.setPending es).dout = s.dout := rfl
@[simp] theorem State.setPending_gfIn (es : List HostEvent) : (s.setPending es).gfIn = s.gfIn := rfl
@[simp] theorem State.setPending_gfOut (es : List HostEvent) : (s.setPending es).gfOut = s.gfOut := rfl
@[simp] theorem State.setPending_status (es : List HostEvent) : (s.setPending es).status = s.status := rfl
@[simp] theorem State.setPending_msg (es : List HostEvent) : (s.setPending es).msg = s.msg := rfl
@[simp] theorem State.setPending_h (es : List HostEvent) : (s.setPending es).h = s.h := rfl
@[simp] theorem State.setPending_rk (es : List HostEvent) : (s.setPending es).rk = s.rk := rfl
@[simp] theorem State.setPending_w (es : List HostEvent) : (s.setPending es).w = s.w := rfl
@[simp] theorem State.setPending_pending (es : List HostEvent) : (s.setPending es).pending = es := rfl
@[simp] theorem State.setPending_rdata (es : List HostEvent) : (s.setPending es).rdata = s.rdata := rfl

@[simp] theorem State.expandKey_key : s.expandKey.key = s.key := rfl
@[simp] theorem State.expandKey_din : s.expandKey.din = s.din := rfl
@[simp] theorem State.expandKey_dout : s.expandKey.dout = s.dout := rfl
@[simp] theorem State.expandKey_gfIn : s.expandKey.gfIn = s.gfIn := rfl
@[simp] theorem State.expandKey_gfOut : s.expandKey.gfOut = s.gfOut := rfl
@[simp] theorem State.expandKey_status : s.expandKey.status = { s.status with rkValid := true } := rfl
@[simp] theorem State.expandKey_msg : s.expandKey.msg = s.msg := rfl
@[simp] theorem State.expandKey_h : s.expandKey.h = s.h := rfl
@[simp] theorem State.expandKey_rk : s.expandKey.rk = expand s.key := rfl
@[simp] theorem State.expandKey_w : s.expandKey.w = s.w := rfl
@[simp] theorem State.expandKey_pending : s.expandKey.pending = s.pending := rfl
@[simp] theorem State.expandKey_rdata : s.expandKey.rdata = s.rdata := rfl

@[simp] theorem State.resetWith_key (d : Draw) (es : List HostEvent) : (State.resetWith d es).key = d.key := rfl
@[simp] theorem State.resetWith_din (d : Draw) (es : List HostEvent) : (State.resetWith d es).din = d.din := rfl
@[simp] theorem State.resetWith_dout (d : Draw) (es : List HostEvent) : (State.resetWith d es).dout = d.dout := rfl
@[simp] theorem State.resetWith_gfIn (d : Draw) (es : List HostEvent) : (State.resetWith d es).gfIn = d.gfIn := rfl
@[simp] theorem State.resetWith_gfOut (d : Draw) (es : List HostEvent) : (State.resetWith d es).gfOut = d.gfOut := rfl
@[simp] theorem State.resetWith_status (d : Draw) (es : List HostEvent) : (State.resetWith d es).status = Status.reset := rfl
@[simp] theorem State.resetWith_msg (d : Draw) (es : List HostEvent) : (State.resetWith d es).msg = d.msg := rfl
@[simp] theorem State.resetWith_h (d : Draw) (es : List HostEvent) : (State.resetWith d es).h = d.h := rfl
@[simp] theorem State.resetWith_rk (d : Draw) (es : List HostEvent) : (State.resetWith d es).rk = d.rk := rfl
@[simp] theorem State.resetWith_w (d : Draw) (es : List HostEvent) : (State.resetWith d es).w = d.w := rfl
@[simp] theorem State.resetWith_pending (d : Draw) (es : List HostEvent) : (State.resetWith d es).pending = es := rfl
@[simp] theorem State.resetWith_rdata (d : Draw) (es : List HostEvent) : (State.resetWith d es).rdata = none := rfl

end Sys2Proof.Machine
end

