-- ==== Sys2Proof/Laws/Bus.lean ====
section
/-! SUPPORT. The address map, range by range. -/

namespace Sys2Proof.Machine

theorem region_key (a : Addr) (h : a.toNat < 0x010) : region a = .key ⟨a.toNat, h⟩ := by
  simp only [region]
  rw [dif_pos h]

theorem region_din (a : Addr) (h : 0x010 ≤ a.toNat ∧ a.toNat < 0x020) :
    region a = .din ⟨a.toNat - 0x010, by omega⟩ := by
  simp only [region]
  rw [dif_neg (by omega), dif_pos h.2]

theorem region_cmd : region cmdAddr = .cmd := by decide

theorem region_status : region 0x039 = .status := by decide

/-- A host write to `CMD` runs the command word. -/
theorem hostEvent_cmd (v : Byte) (s : State) : hostEvent (.write cmdAddr v) s = runCommand v s := by
  simp only [hostEvent, busWrite, region_cmd]

/-- A host write to any other address answers a next state that differs in a host-writable register at most (R65, R71,
R72). -/
theorem busWrite_cases (a : Addr) (v : Byte) (s : State) (ha : region a ≠ .cmd) :
    (∃ i, busWrite a v s = .next (s.setKeyByte i v)) ∨ (∃ i, busWrite a v s = .next (s.setDinByte i v)) ∨
      (∃ i, busWrite a v s = .next (s.setMsgByte i v)) ∨ busWrite a v s = .next (s.setGfIn v) ∨
      busWrite a v s = .next s := by
  unfold busWrite
  cases h : region a with
  | key i => exact .inl ⟨i, rfl⟩
  | din i => exact .inr (.inl ⟨i, rfl⟩)
  | msg i => exact .inr (.inr (.inl ⟨i, rfl⟩))
  | gfIn => exact .inr (.inr (.inr (.inl rfl)))
  | cmd => exact absurd h ha
  | dout _ | gfOut | status | hview _ | rkview _ | wview _ | reserved => exact .inr (.inr (.inr (.inr rfl)))

end Sys2Proof.Machine
end

