-- ==== Sys2Proof/Laws/PerInstr.lean ====
section
/-! SUPPORT. The family "Encoding": what the word of every command is, one lemma per command. -/

namespace Sys2Proof.Laws.Encoding

/-- The command is well formed, and so are the fields of its word (R93, R94). -/
def Statement (i : Instr) : Prop :=
  i.wf = true ∧ (CommandWord.ofByte (encode i)).wf = true ∧ CommandWord.ofByte (encode i) = encodeFields i

theorem gfmul01 : Statement .gfmul01 := by unfold Statement; decide
theorem gfmul02 : Statement .gfmul02 := by unfold Statement; decide
theorem gfmul03 : Statement .gfmul03 := by unfold Statement; decide
theorem gfmul09 : Statement .gfmul09 := by unfold Statement; decide
theorem gfmul0B : Statement .gfmul0B := by unfold Statement; decide
theorem gfmul0D : Statement .gfmul0D := by unfold Statement; decide
theorem gfmul0E : Statement .gfmul0E := by unfold Statement; decide
theorem keyexp : Statement .keyexp := by unfold Statement; decide
theorem aesEnc : Statement .aesEnc := by unfold Statement; decide
theorem aesDec : Statement .aesDec := by unfold Statement; decide
theorem shaInit : Statement .shaInit := by unfold Statement; decide
theorem shaSched : Statement .shaSched := by unfold Statement; decide
theorem shaComp : Statement .shaComp := by unfold Statement; decide
theorem shaBlock : Statement .shaBlock := by unfold Statement; decide

end Sys2Proof.Laws.Encoding
end

