-- ==== Sys2Proof/Laws/Schedules.lean ====
section
/-! SUPPORT. What the two schedule loops write: their first words, and their recurrences. -/

namespace Sys2Proof.Machine

/-- A turn of the key schedule leaves the words before the one it writes. -/
theorem expandTurn_before (n : Nat) (hn : n < 40) (rk : Vector Word 44) (i : Nat) (hi : i < n + 4) :
    (expandTurn n hn rk)[i] = rk[i] := by
  simp only [expandTurn, Vector.getElem_set]
  rw [if_neg (by omega)]

/-- The first four words are the key's, after any number of turns (R156). -/
theorem expandLoop_head (key : Vector Byte 16) (n : Nat) (hn : n ≤ 40) (i : Nat) (hi : i < 4) :
    (expandLoop key n hn)[i] = packedWord key i (by omega) := by
  induction n with
  | zero => simp [expandLoop, hi]
  | succ n ih => rw [expandLoop, expandTurn_before n (by omega) _ i (by omega), ih]

/-- Every word written so far satisfies the recurrence (R152). -/
theorem expandLoop_word (key : Vector Byte 16) (n : Nat) (hn : n ≤ 40) (i : Nat) (hi : 4 ≤ i ∧ i < 44) (hin : i < n + 4) :
    (expandLoop key n hn)[i] =
      (expandLoop key n hn)[i - 4] ^^^ expandTemp i hi (expandLoop key n hn)[i - 1] := by
  induction n with
  | zero => omega
  | succ n ih =>
    simp only [expandLoop]
    rw [expandTurn_before n (by omega) _ (i - 4) (by omega), expandTurn_before n (by omega) _ (i - 1) (by omega)]
    rcases Nat.lt_or_ge i (n + 4) with h | h
    · rw [expandTurn_before n (by omega) _ i h]
      exact ih (by omega) h
    · obtain rfl : i = n + 4 := by omega
      simp [expandTurn]

/-- Words 0 to 3 of the key schedule (R156). -/
theorem expand_head (key : Vector Byte 16) (i : Nat) (hi : i < 4) :
    (expand key)[i] = packedWord key i (by omega) := by
  unfold expand
  exact expandLoop_head key 40 (by omega) i hi

/-- Words 4 to 43 of the key schedule (R152). -/
theorem expand_word (key : Vector Byte 16) (i : Nat) (hi : 4 ≤ i ∧ i < 44) :
    (expand key)[i] = (expand key)[i - 4] ^^^ expandTemp i hi (expand key)[i - 1] := by
  unfold expand
  exact expandLoop_word key 40 (by omega) i hi (by omega)

/-- A turn of the message schedule leaves the words before the one it writes. -/
theorem scheduleTurn_before (n : Nat) (hn : n < 48) (w : Vector Word 64) (t : Nat) (ht : t < n + 16) :
    (scheduleTurn n hn w)[t] = w[t] := by
  simp only [scheduleTurn, Vector.getElem_set]
  rw [if_neg (by omega)]

/-- The first sixteen words are the block's, after any number of turns (R222). -/
theorem scheduleLoop_head (msg : Vector Byte 64) (n : Nat) (hn : n ≤ 48) (t : Nat) (ht : t < 16) :
    (scheduleLoop msg n hn)[t] = packedWord msg t (by omega) := by
  induction n with
  | zero => simp [scheduleLoop, ht]
  | succ n ih => rw [scheduleLoop, scheduleTurn_before n (by omega) _ t (by omega), ih]

/-- Every word written so far satisfies the recurrence (R214). -/
theorem scheduleLoop_word (msg : Vector Byte 64) (n : Nat) (hn : n ≤ 48) (t : Nat) (ht : 16 ≤ t ∧ t < 64)
    (htn : t < n + 16) :
    (scheduleLoop msg n hn)[t] =
      smallSig1 (scheduleLoop msg n hn)[t - 2] + (scheduleLoop msg n hn)[t - 7]
        + smallSig0 (scheduleLoop msg n hn)[t - 15] + (scheduleLoop msg n hn)[t - 16] := by
  induction n with
  | zero => omega
  | succ n ih =>
    simp only [scheduleLoop]
    rw [scheduleTurn_before n (by omega) _ (t - 2) (by omega), scheduleTurn_before n (by omega) _ (t - 7) (by omega),
      scheduleTurn_before n (by omega) _ (t - 15) (by omega), scheduleTurn_before n (by omega) _ (t - 16) (by omega)]
    rcases Nat.lt_or_ge t (n + 16) with h | h
    · rw [scheduleTurn_before n (by omega) _ t h]
      exact ih (by omega) h
    · obtain rfl : t = n + 16 := by omega
      simp [scheduleTurn]

/-- Words 0 to 15 of the message schedule (R222). -/
theorem schedule_head (msg : Vector Byte 64) (t : Nat) (ht : t < 16) :
    (schedule msg)[t] = packedWord msg t (by omega) := by
  unfold schedule
  exact scheduleLoop_head msg 48 (by omega) t ht

/-- Words 16 to 63 of the message schedule (R214). -/
theorem schedule_word (msg : Vector Byte 64) (t : Nat) (ht : 16 ≤ t ∧ t < 64) :
    (schedule msg)[t] =
      smallSig1 (schedule msg)[t - 2] + (schedule msg)[t - 7] + smallSig0 (schedule msg)[t - 15]
        + (schedule msg)[t - 16] := by
  unfold schedule
  exact scheduleLoop_word msg 48 (by omega) t ht (by omega)

end Sys2Proof.Machine
end

