-- ==== Sys2Proof/Laws/Step.lean ====
section
/-! SUPPORT. What a command word, an event and a step can do, said once. -/

namespace Sys2Proof.Machine

@[simp] theorem complete_eq (s : State) : complete s = .next (s.setErr 0) := rfl

@[simp] theorem raiseCmdError_eq (e : CmdError) (s : State) : raiseCmdError e s = .next (s.setErr (errCode e)) := rfl

/-- A word that decodes runs its command. -/
theorem runCommand_ok {v : Byte} {i : Instr} (h : decode v = .ok i) (s : State) : runCommand v s = exec i s := by
  simp only [runCommand, h]

/-- A word that does not decode writes its code and nothing else. -/
theorem runCommand_error {v : Byte} {e : CmdError} (h : decode v = .error e) (s : State) :
    runCommand v s = .next (s.setErr (errCode e)) := by
  simp only [runCommand, h, raiseCmdError_eq]

/-- A command word either runs a command it decodes to, or writes the code of the decoder's error. -/
theorem runCommand_cases (v : Byte) (s : State) :
    (∃ i, decode v = .ok i ∧ runCommand v s = exec i s) ∨
      ∃ e, decode v = .error e ∧ runCommand v s = .next (s.setErr (errCode e)) := by
  cases h : decode v with
  | ok i => exact .inl ⟨i, rfl, runCommand_ok h s⟩
  | error e => exact .inr ⟨e, rfl, runCommand_error h s⟩

/-- What SHA_COMP answers: an error, the older precondition first, or its effect. -/
theorem exec_shaComp (s : State) :
    exec .shaComp s =
      if s.status.hValid = false then .next (s.setErr 4)
      else if s.status.wValid = false then .next (s.setErr 3)
      else .next (((s.setH (compress s.h s.w)).setWValid false).setErr 0) := rfl

/-- SHA_COMP with both valid bits set. -/
theorem exec_shaComp_ok {s : State} (hh : s.status.hValid = true) (hw : s.status.wValid = true) :
    exec .shaComp s = .next (((s.setH (compress s.h s.w)).setWValid false).setErr 0) := by
  rw [exec_shaComp, if_neg (by simp [hh]), if_neg (by simp [hw])]

/-- What SHA_BLOCK answers. -/
theorem exec_shaBlock (s : State) :
    exec .shaBlock s =
      if s.status.hValid = false then .next (s.setErr 4)
      else .next ((((s.setW (schedule s.msg)).setH (compress s.h (schedule s.msg))).setWValid false).setErr 0) := rfl

/-- SHA_BLOCK with `H_VALID` set. -/
theorem exec_shaBlock_ok {s : State} (hh : s.status.hValid = true) :
    exec .shaBlock s =
      .next ((((s.setW (schedule s.msg)).setH (compress s.h (schedule s.msg))).setWValid false).setErr 0) := by
  rw [exec_shaBlock, if_neg (by simp [hh])]

theorem exec_shaInit (s : State) :
    exec .shaInit s = .next ((((s.setH iv).setHValid true).setWValid false).setErr 0) := rfl

theorem exec_shaSched (s : State) :
    exec .shaSched s = .next (((s.setW (schedule s.msg)).setWValid true).setErr 0) := rfl

theorem exec_keyexp (s : State) : exec .keyexp s = .next (s.expandKey.setErr 0) := rfl

theorem exec_aesEnc (s : State) :
    exec .aesEnc s =
      .next ((s.expandKey.setDout (storeState (cipher (expand s.key) (loadState s.din)))).setErr 0) := rfl

theorem exec_aesDec (s : State) :
    exec .aesDec s =
      .next ((s.expandKey.setDout (storeState (invCipher (expand s.key) (loadState s.din)))).setErr 0) := rfl

/-- The seven GFMUL commands are one operation at seven constants. -/
theorem exec_gfmul (s : State) :
    exec .gfmul01 s = gfmul .c01 s ∧ exec .gfmul02 s = gfmul .c02 s ∧ exec .gfmul03 s = gfmul .c03 s ∧
      exec .gfmul09 s = gfmul .c09 s ∧ exec .gfmul0B s = gfmul .c0B s ∧ exec .gfmul0D s = gfmul .c0D s ∧
      exec .gfmul0E s = gfmul .c0E s :=
  ⟨rfl, rfl, rfl, rfl, rfl, rfl, rfl⟩

theorem gfmul_eq (c : GfConst) (s : State) : gfmul c s = .next ((s.setGfOut (mul c s.gfIn)).setErr 0) := rfl

/-- With no event pending, a step changes nothing. -/
theorem step_idle {s : State} (h : s.pending = []) : step s = .next s := by
  simp only [step, serve, h]

/-- With an event pending, a step takes it off the input and answers it. -/
theorem step_event {s : State} {e : HostEvent} {es : List HostEvent} (h : s.pending = e :: es) :
    step s = hostEvent e ((s.setPending es).setRdata none) := by
  simp only [step, serve, h]

/-- A run of the core is one step and the run from there. -/
theorem run_succ (k : Nat) {s t : State} (h : step s = .next t) :
    Sys2Proof.core.run (k + 1) s = Sys2Proof.core.run k t := by
  have hc : Sys2Proof.core.step s = .next t := h
  simp only [Host.Core.run]
  rw [hc]

end Sys2Proof.Machine
end

