-- ==== Sys2Proof/Tests/Slice0.lean ====
section
/-! SUPPORT. Tests. Every expected value is transcribed from spec/95_test_vectors.md or from the rule a comment names; the
witnesses at the end show that each obligation's hypotheses can be met, and what its clauses give at their boundaries. -/

namespace Sys2Proof.Machine

-- One theorem at a time: many closed computations at once would each hold a thread.
set_option Elab.async false

/-- The state an outcome answers, if it answers one. -/
def stateOf : Host.Outcome State Fault Refusal → Option State
  | .next t => some t
  | _       => none

/-- The state after the byte `v` is written to `CMD`. No command stops the core, so the second case does not occur. -/
def afterCmd (s : State) (v : Byte) : State := (stateOf (writeCmd v s)).getD s

/-- The byte read at `a` after one byte is written to `CMD`. -/
def readAfter (v : Byte) (a : Addr) (s : State) : Byte := busRead (afterCmd s v) a

/-- The key and the plaintext of the source's AES known answer S1, and its ciphertext. -/
def keyS1 : Vector Byte 16 := #v[0, 1, 2, 3, 4, 5, 6, 7, 8, 9, 10, 11, 12, 13, 14, 15]
def plainS1 : Vector Byte 16 :=
  #v[0x00, 0x11, 0x22, 0x33, 0x44, 0x55, 0x66, 0x77, 0x88, 0x99, 0xaa, 0xbb, 0xcc, 0xdd, 0xee, 0xff]
def cipherS1 : Vector Byte 16 :=
  #v[0x69, 0xc4, 0xe0, 0xd8, 0x6a, 0x7b, 0x04, 0x30, 0xd8, 0xcd, 0xb7, 0x80, 0x70, 0xb4, 0xc5, 0x5a]

/-- A small state: the reset state with an AES key and block. -/
def aesState (key din : Vector Byte 16) : State := { State.reset with key := key, din := din }

/-- A small state: the reset state with the multiplier's operand. -/
def gfState (b : Byte) : State := { State.reset with gfIn := b }

/-- The one block of the padded message "abc" (95_test_vectors.md section 8). -/
def abcBlock : Vector Byte 64 := blockAt ([0x61, 0x62, 0x63, 0x80] ++ List.replicate 59 0x00 ++ [0x18]) 0

/-- A small state: the reset state with a message block. -/
def shaState (msg : Vector Byte 64) : State := { State.reset with msg := msg }

/-- The state after SHA_INIT and SHA_SCHED on "abc": both preconditions of SHA_COMP hold. -/
def readyState : State := afterCmd (afterCmd (shaState abcBlock) 0x50) 0x60

/-! ### WellFormed smoke tests (R93, R94) -/

theorem test_wf_accepts_gfmul : CommandWord.wf ⟨0x1, 0xE⟩ = true := by decide
theorem test_wf_accepts_plain : CommandWord.wf ⟨0x8, 0x0⟩ = true := by decide
theorem test_wf_refuses_reserved_opc : CommandWord.opcDefined ⟨0x9, 0x0⟩ = false ∧ CommandWord.wf ⟨0x9, 0x0⟩ = false ∧
    CommandWord.wf ⟨0x0, 0x0⟩ = false := by decide
theorem test_wf_refuses_constant : CommandWord.fnLegal ⟨0x1, 0x4⟩ = false ∧ CommandWord.wf ⟨0x1, 0x4⟩ = false := by decide
theorem test_wf_refuses_nonzero_fn : CommandWord.fnLegal ⟨0x2, 0x1⟩ = false ∧ CommandWord.wf ⟨0x2, 0x1⟩ = false := by decide

/-! ### Decoding: every row of R94, bit by bit as its column "bits" has it -/

theorem test_decode_gfmul01 : decode 0b00010001 = .ok .gfmul01 := by decide
theorem test_decode_gfmul02 : decode 0b00010010 = .ok .gfmul02 := by decide
theorem test_decode_gfmul03 : decode 0b00010011 = .ok .gfmul03 := by decide
theorem test_decode_gfmul09 : decode 0b00011001 = .ok .gfmul09 := by decide
theorem test_decode_gfmul0B : decode 0b00011011 = .ok .gfmul0B := by decide
theorem test_decode_gfmul0D : decode 0b00011101 = .ok .gfmul0D := by decide
theorem test_decode_gfmul0E : decode 0b00011110 = .ok .gfmul0E := by decide
theorem test_decode_keyexp : decode 0b00100000 = .ok .keyexp := by decide
theorem test_decode_aesEnc : decode 0b00110000 = .ok .aesEnc := by decide
theorem test_decode_aesDec : decode 0b01000000 = .ok .aesDec := by decide
theorem test_decode_shaInit : decode 0b01010000 = .ok .shaInit := by decide
theorem test_decode_shaSched : decode 0b01100000 = .ok .shaSched := by decide
theorem test_decode_shaComp : decode 0b01110000 = .ok .shaComp := by decide
theorem test_decode_shaBlock : decode 0b10000000 = .ok .shaBlock := by decide
theorem test_decode_refuses_constant : decode 0b00010100 = .error .gfConst := by decide
theorem test_decode_refuses_fn : decode 0b00100001 = .error .illegalCmd := by decide
theorem test_decode_table_word : decodeTableWord 8 0x11 = some .gfmul01 ∧ decodeTableWord 8 0x14 = none := by decide

/-- The first step after reset runs the placed word: STATUS becomes 0x20 for SHA_INIT, 0x01 for byte 0x00 (section 11). -/
theorem test_first_step :
    (stateOf (step (State.reset.withFetchWord 8 0x50))).map (fun t => (busRead t 0x039, t.pending)) = some (0x20, []) ∧
      (stateOf (step (State.reset.withFetchWord 8 0x00))).map (fun t => busRead t 0x039) = some 0x01 := by
  decide +kernel

/-! ### Packer and unpacker (section 2) -/

theorem test_pack : packBe 0xde 0xad 0xbe 0xef = 0xdeadbeef ∧ packBe 0x80 0x00 0x00 0x01 = 0x80000001 := by decide
theorem test_unpack : unpackBe 0x80000001 = #v[0x80, 0x00, 0x00, 0x01] := by decide
theorem test_load_state : (loadState plainS1)[0] = #v[0x00, 0x44, 0x88, 0xcc] ∧
    (loadState plainS1)[1] = #v[0x11, 0x55, 0x99, 0xdd] := by decide +kernel
theorem test_rk_byte : rkByte (expand keyS1) 0 1 2 = 0x09 ∧ rkByte (expand keyS1) 10 0 0 = 0x13 := by decide +kernel

/-! ### GF(2^8) multiplier (section 3, rows 53, 83 and ca; P3) -/

theorem test_xtime : xtime 0x80 = 0x1b ∧ xtime 0x7f = 0xfe ∧ xtime 0xff = 0xe5 := by decide
theorem test_gfmul01 : readAfter 0x11 0x031 (gfState 0xca) = 0xca := by decide +kernel
theorem test_gfmul02 : readAfter 0x12 0x031 (gfState 0xca) = 0x8f := by decide +kernel
theorem test_gfmul03 : readAfter 0x13 0x031 (gfState 0x83) = 0x9e := by decide +kernel
theorem test_gfmul09 : readAfter 0x19 0x031 (gfState 0x53) = 0xfd := by decide +kernel
theorem test_gfmul0B : readAfter 0x1B 0x031 (gfState 0x53) = 0x5b := by decide +kernel
theorem test_gfmul0D : readAfter 0x1D 0x031 (gfState 0x83) = 0xcd := by decide +kernel
theorem test_gfmul0E : readAfter 0x1E 0x031 (gfState 0xca) = 0x80 := by decide +kernel
theorem test_gfmul_bad_constant :
    readAfter 0x14 0x031 { gfState 0x57 with gfOut := 0xae } = 0xae ∧ readAfter 0x14 0x039 (gfState 0x57) = 0x02 := by
  decide +kernel

/-! ### AES (sections 4 to 7) -/

/-- Words 3, 4, 5 and 43 of the schedule of the S1 key: the boundaries of the two cases of R152. -/
theorem test_keyexp_words : (expand keyS1)[3] = 0x0c0d0e0f ∧ (expand keyS1)[4] = 0xd6aa74fd ∧
    (expand keyS1)[5] = 0xd2af72fa ∧ (expand keyS1)[43] = 0x4d2b30c5 := by decide +kernel
theorem test_keyexp_status_and_view : readAfter 0x20 0x039 (aesState keyS1 plainS1) = 0x08 ∧
    readAfter 0x20 0x1AC (aesState keyS1 plainS1) = 0x4d := by decide +kernel
theorem test_shift_rows : storeState (shiftRows (loadState keyS1)) =
    #v[0x00, 0x05, 0x0a, 0x0f, 0x04, 0x09, 0x0e, 0x03, 0x08, 0x0d, 0x02, 0x07, 0x0c, 0x01, 0x06, 0x0b] := by
  decide +kernel
theorem test_inv_shift_rows : storeState (invShiftRows (loadState keyS1)) =
    #v[0x00, 0x0d, 0x0a, 0x07, 0x04, 0x01, 0x0e, 0x0b, 0x08, 0x05, 0x02, 0x0f, 0x0c, 0x09, 0x06, 0x03] := by
  decide +kernel

/-- Round 1 of the trace of section 5: columns before and after MixColumns, all four. -/
theorem test_mix_columns : storeState (mixColumns (loadState
      #v[0x63, 0x53, 0xe0, 0x8c, 0x09, 0x60, 0xe1, 0x04, 0xcd, 0x70, 0xb7, 0x51, 0xba, 0xca, 0xd0, 0xe7])) =
    #v[0x5f, 0x72, 0x64, 0x15, 0x57, 0xf5, 0xbc, 0x92, 0xf7, 0xbe, 0x3b, 0x29, 0x1d, 0xb9, 0xf9, 0x1a] := by
  decide +kernel
theorem test_aesEnc : (stateOf (exec .aesEnc (aesState keyS1 plainS1))).map (·.dout) = some cipherS1 := by decide +kernel
theorem test_aesEnc_status : readAfter 0x30 0x039 (aesState keyS1 plainS1) = 0x08 := by decide +kernel
theorem test_aesDec : (stateOf (exec .aesDec (aesState keyS1 cipherS1))).map (·.dout) = some plainS1 := by decide +kernel

/-- AES_DEC of the all-zero block under the all-zero key (R194). -/
theorem test_aesDec_zero : (stateOf (exec .aesDec State.reset)).map (·.dout) =
    some #v[0x14, 0x0f, 0x0f, 0x10, 0x11, 0xb5, 0x22, 0x3d, 0x79, 0x58, 0x77, 0x17, 0xff, 0xd9, 0xec, 0x3a] := by
  decide +kernel

/-! ### SHA-256 (sections 8 to 10) -/

theorem test_mixing_functions : smallSig0 0x6a09e667 = 0xba0cf582 ∧ smallSig1 0x6a09e667 = 0xcfe5da3c ∧
    bigSig0 0x6a09e667 = 0xce20b47e ∧ bigSig1 0x6a09e667 = 0x55b65510 := by decide
theorem test_ch_maj : ch 0xf0f0f0f0 0xffffffff 0x00000000 = 0xf0f0f0f0 ∧
    maj 0xf0f0f0f0 0xff00ff00 0x00000000 = 0xf000f000 ∧ ch 0x00000000 0x12345678 0x9abcdef0 = 0x9abcdef0 := by decide
theorem test_rotr_bounds : rotr 1 0x00000001 = 0x80000000 ∧ rotr 31 0x00000001 = 0x00000002 := by decide

/-- K[0], K[63] and the last round constant at their places in R49 and R50. -/
theorem test_constants : kConst 0 (by omega) = 0x428a2f98 ∧ kConst 63 (by omega) = 0xc67178f2 ∧ rcon[9] = 0x36 ∧
    sbox 0x53 = 0xed ∧ invSbox 0x00 = 0x52 := by decide

theorem test_shaInit : readAfter 0x50 0x039 State.reset = 0x20 ∧ readAfter 0x50 0x080 State.reset = 0x6a ∧
    readAfter 0x50 0x09F State.reset = 0x19 := by decide +kernel

/-- SHA_INIT after SHA_SCHED clears W_VALID (section 11). -/
theorem test_shaInit_clears_w_valid : readAfter 0x50 0x039 readyState = 0x20 := by decide +kernel

/-- Words 15, 16, 17 and 63 for "abc": the boundaries of the two cases of R214. -/
theorem test_shaSched : readyState.w[15] = 0x00000018 ∧ readyState.w[16] = 0x61626380 ∧
    readyState.w[17] = 0x000f0000 ∧ readyState.w[63] = 0x12b1edeb := by decide +kernel
theorem test_shaSched_status : busRead readyState 0x039 = 0x30 ∧ busRead readyState 0x2FC = 0x12 := by decide +kernel

/-- The working variables after round 0 on "abc" from IV (R215). -/
theorem test_round : rounds iv (schedule abcBlock) 1 (by omega) = ⟨0x5d6aebcd, 0x6a09e667, 0xbb67ae85, 0x3c6ef372,
    0xfa2a4622, 0x510e527f, 0x9b05688c, 0x1f83d9ab⟩ := by decide +kernel

/-- The digest of "abc" (S3), and that the schedule is consumed. -/
theorem test_shaComp : (afterCmd readyState 0x70).h =
      #v[0xba7816bf, 0x8f01cfea, 0x414140de, 0x5dae2223, 0xb00361a3, 0x96177a9c, 0xb410ff61, 0xf20015ad] ∧
    readAfter 0x70 0x039 readyState = 0x20 := by decide +kernel
theorem test_shaComp_errors : readAfter 0x70 0x039 State.reset = 0x04 ∧
    readAfter 0x70 0x039 (afterCmd State.reset 0x50) = 0x23 ∧
    readAfter 0x70 0x039 (afterCmd State.reset 0x60) = 0x14 := by decide +kernel

/-- The digest of the empty message (S4). -/
theorem test_shaBlock : (afterCmd (afterCmd (shaState (blockAt [0x80] 0)) 0x50) 0x80).h =
    #v[0xe3b0c442, 0x98fc1c14, 0x9afbf4c8, 0x996fb924, 0x27ae41e4, 0x649b934c, 0xa495991b, 0x7852b855] := by
  decide +kernel
theorem test_shaBlock_error : readAfter 0x80 0x039 (afterCmd State.reset 0x60) = 0x14 := by decide +kernel

/-! ### The register space (section 11) and the host procedures (section 10) -/

theorem test_reads_of_zero : [0x038, 0x035, 0x0A0, 0x3FF].map (busRead readyState) = [0x00, 0x00, 0x00, 0x00] := by
  decide +kernel
theorem test_error_keeps_rk_valid_and_is_not_sticky : readAfter 0x00 0x039 (afterCmd State.reset 0x20) = 0x09 ∧
    readAfter 0x11 0x039 (afterCmd (afterCmd State.reset 0x20) 0x00) = 0x08 := by decide +kernel
theorem test_reset_event : (stateOf (step { readyState with pending := [.reset Config.zeroDraw] })).map
    (fun t => busRead t 0x039) = some 0x00 := by decide +kernel
theorem test_padding_abc : (pad [0x61, 0x62, 0x63]).map (blockAt · 0) = some abcBlock := by decide +kernel
theorem test_pad_zeros : [0, 3, 55, 56, 63, 64, 65].map padZeros = [55, 52, 0, 63, 56, 55, 54] := by decide
theorem test_file_blocks : (fileBlocks (List.replicate 64 0x61)).map List.length = some 2 ∧
    (fileBlocks (List.replicate 55 0x61)).map List.length = some 1 := by decide +kernel
/-- Hashing the file "abc": SHA_INIT, 64 writes, SHA_BLOCK, CHECK and 32 reads (R254, R255). -/
theorem test_file_script : (hashFileScript [0x61, 0x62, 0x63]).map List.length = some 99 := by decide +kernel
theorem test_render : (renderDigest (afterCmd readyState 0x70)).take 16 = "ba7816bf8f01cfea".toList := by decide +kernel
theorem test_scripts : issue .shaBlock = [.write 0x038 0x80] ∧ gfScript .c0B 0x80 =
    [.write 0x030 0x80, .write 0x038 0x1B, .read 0x031] ∧ readRk 43 = [.read 0x1AC, .read 0x1AD, .read 0x1AE, .read 0x1AF] := by
  decide +kernel

/-! ### Witnesses: for each obligation with hypotheses, a state and operands that meet them -/

theorem witness_CommandWordsDecode : (0x80, Instr.shaBlock) ∈ validWords ∧ (0x10 : Byte) ∉ validWords.map Prod.fst := by decide
theorem witness_DecodeUndoesEncode : decode 0x1E = .ok .gfmul0E := by decide
theorem witness_InvalidWordsRaiseErrorsOnly :
    (0x0#4 = 0x0#4 ∧ 0x1#4 = 0x1#4 ∧ 0xF#4 ∈ [0x0#4, 0x4#4, 0x5#4, 0x6#4, 0x7#4, 0x8#4, 0xA#4, 0xC#4, 0xF#4]) ∧
      (0x2#4 ≤ 0x2#4 ∧ 0x8#4 ≤ 0x8#4 ∧ 0x1#4 ≠ 0x0#4) ∧ 0x9#4 ≤ 0x9#4 ∧
      [0x0F, 0x1F, 0x21, 0x88, 0x90, 0xFF].map (readAfter · 0x039 State.reset) = [0x01, 0x02, 0x01, 0x01, 0x01, 0x01] := by
  decide +kernel
theorem witness_UnsupportedConstantFailsFast : 0x10 ∈ gfConstWords ∧ 0x1F ∈ gfConstWords := by decide
theorem witness_StepRunsTheDecodedCommand :
    (∃ s : State, s.pending = .write 0x038 0x80 :: [.read 0x039] ∧ decode 0x80 = .ok .shaBlock) ∧
      (∃ s : State, s.pending = .write 0x038 0x14 :: [] ∧ decode 0x14 = .error .gfConst) ∧
      decodeTableWord 8 0x30 = some .aesEnc :=
  ⟨⟨{ State.reset with pending := [.write 0x038 0x80, .read 0x039] }, rfl, by decide⟩,
    ⟨{ State.reset with pending := [.write 0x038 0x14] }, rfl, by decide⟩, by decide⟩
theorem witness_StepServesTheOldestEvent :
    State.reset.pending = [] ∧ (∃ s : State, s.pending = .read 0x3FF :: []) ∧ ∃ s : State, s.pending = .write 0x000 0xAB :: [] :=
  ⟨rfl, ⟨{ State.reset with pending := [.read 0x3FF] }, rfl⟩, ⟨{ State.reset with pending := [.write 0x000 0xAB] }, rfl⟩⟩
theorem witness_GfmulResults : (gfState 0x80).gfIn = 0x80 := rfl
theorem witness_ScheduleIsDerivedAfresh : ∃ s s' : State, s.rk ≠ s'.rk ∧ s.key = s'.key ∧ s.din = s'.din ∧ isAes .aesDec :=
  ⟨aesState keyS1 plainS1, { aesState keyS1 plainS1 with rk := Vector.replicate 44 1 }, by decide, rfl, rfl, by decide⟩
theorem witness_DecryptUndoesEncrypt : ∃ s t s' : State, exec .aesEnc s = .next t ∧ s'.key = s.key ∧ s'.din = t.dout ∧
    s'.dout ≠ t.dout :=
  ⟨aesState keyS1 plainS1, afterCmd (aesState keyS1 plainS1) 0x30, aesState keyS1 cipherS1, rfl, rfl, by decide +kernel,
    by decide +kernel⟩
theorem witness_EncryptUndoesDecrypt : ∃ s t s' : State, exec .aesDec s = .next t ∧ s'.key = s.key ∧ s'.din = t.dout ∧
    s'.dout ≠ t.dout :=
  ⟨aesState keyS1 cipherS1, afterCmd (aesState keyS1 cipherS1) 0x40, aesState keyS1 plainS1, rfl, rfl, by decide +kernel,
    by decide +kernel⟩
theorem witness_ShaCompFoldsTheSchedule : readyState.status.hValid = true ∧ readyState.status.wValid = true := by
  decide +kernel
theorem witness_ShaPreconditionsInOrder : State.reset.status.hValid = false ∧
    (afterCmd State.reset 0x50).status.hValid = true ∧ (afterCmd State.reset 0x50).status.wValid = false := by decide +kernel
theorem witness_ShaBlockIsSchedThenComp : (afterCmd State.reset 0x50).status.hValid = true := by decide +kernel
theorem witness_ScheduleIsConsumedOnce :
    (exec .shaComp readyState = .next (afterCmd readyState 0x70) ∧ (afterCmd readyState 0x70).status.err = 0) ∧
      exec .shaBlock readyState = .next (afterCmd readyState 0x80) ∧ (afterCmd readyState 0x80).status.err = 0 :=
  ⟨⟨exec_shaComp_ok (by decide +kernel) (by decide +kernel), by decide +kernel⟩,
    exec_shaBlock_ok (by decide +kernel), by decide +kernel⟩
theorem witness_StorageReadsBack : (∀ a ∈ [(0x000 : Addr), 0x01F, 0x030, 0x040, 0x07F], inStorage a) ∧
    (∀ a ∈ [(0x020 : Addr), 0x02F, 0x031, 0x03F, 0x080], ¬ inStorage a) ∧ (0x001 : Addr) ≠ 0x000 ∧
    writeCmd 0x20 State.reset = .next (afterCmd State.reset 0x20) :=
  ⟨by decide, by decide, by decide, rfl⟩
theorem witness_IgnoredWritesChangeNothing :
    (∀ a ∈ [(0x032 : Addr), 0x037, 0x03A, 0x03F, 0x0A0, 0x0FF, 0x1B0, 0x1FF, 0x300, 0x3FF], inReserved a) ∧
      ∀ a ∈ [(0x020 : Addr), 0x02F, 0x031, 0x039, 0x080, 0x09F, 0x100, 0x1AF, 0x200, 0x2FF], inReadOnly a := by
  simp [inReserved, inReadOnly, inDout, inStatus, inHview, inRkview, inWview]
theorem witness_OnlyCommandWritesHaveEffects : (0x037 : Addr) ≠ 0x038 ∧ (0x039 : Addr) ≠ 0x038 ∧ (0x001 : Addr) ≠ 0x000 := by
  decide
theorem witness_CommandsChangeOnlyTheirAddresses :
    ¬ mayChange .gfmul02 0x030 ∧ ¬ mayChange .keyexp 0x1B0 ∧ ¬ mayChange .aesEnc 0x01F ∧ ¬ mayChange .aesDec 0x030 ∧
      ¬ mayChange .shaInit 0x0A0 ∧ ¬ mayChange .shaSched 0x1FF ∧ ¬ mayChange .shaComp 0x200 ∧
      ¬ mayChange .shaBlock 0x300 := by
  simp only [mayChange]; decide
theorem witness_UnitsAreIndependent :
    isAes .keyexp ∧ exec .keyexp readyState = .next (afterCmd readyState 0x20) ∧
      isSha .shaInit ∧ exec .shaInit readyState = .next (afterCmd readyState 0x50) ∧
      exec .shaInit (afterCmd readyState 0x20) = .next (afterCmd (afterCmd readyState 0x20) 0x50) ∧
      isGf .gfmul0E ∧ exec .gfmul0E readyState = .next (afterCmd readyState 0x1E) :=
  ⟨by decide, rfl, by decide, rfl, rfl, by decide, rfl⟩
theorem witness_ResultRegistersHaveTheirWriters :
    (afterCmd (aesState keyS1 plainS1) 0x30).dout ≠ (aesState keyS1 plainS1).dout ∧
      (afterCmd (gfState 0x80) 0x12).gfOut ≠ (gfState 0x80).gfOut ∧
      (afterCmd State.reset 0x20).rk ≠ State.reset.rk ∧
      readyState.w ≠ State.reset.w ∧ (afterCmd State.reset 0x50).h ≠ State.reset.h := by
  decide +kernel
theorem witness_ValidBitsFollowTheTable : (afterCmd State.reset 0x70).status.err ≠ 0 ∧
    (afterCmd State.reset 0x60).status.err = 0 := by decide +kernel
theorem witness_FailedCommandChangesOnlyErr : writeCmd 0xFF readyState = .next (afterCmd readyState 0xFF) ∧
    (afterCmd readyState 0xFF).status.err ≠ 0 :=
  ⟨rfl, by decide +kernel⟩
theorem witness_ValidBitsStandUntilReset : ∃ s t : State, step s = .next t ∧ s.status.hValid = true ∧
    t.status.hValid = false ∧ s.status.rkValid = true ∧ t.status.rkValid = false :=
  ⟨{ State.reset with status := ⟨0, true, false, true⟩, pending := [.reset Config.zeroDraw] },
    State.reset, rfl, rfl, rfl, rfl, rfl⟩
theorem witness_RepeatedCommandChangesNothing : Instr.aesEnc ≠ .shaComp ∧ Instr.aesEnc ≠ .shaBlock := by decide
theorem witness_ResetLeavesTheResetState :
    (∃ s : State, s.pending = .reset Config.zeroDraw :: []) ∧
      ∃ s : State, s.pending = .resetDuring 0x038 0x30 Config.zeroDraw :: [.read 0x039] :=
  ⟨⟨{ State.reset with pending := [.reset Config.zeroDraw] }, rfl⟩,
    ⟨{ State.reset with pending := [.resetDuring 0x038 0x30 Config.zeroDraw, .read 0x039] }, rfl⟩⟩

/-- A state with every valid bit set that meets the invariant, and a step from it. -/
theorem witness_StepKeepsInv : ∃ s t : State, CoreInv s ∧ s.status = ⟨0, true, true, true⟩ ∧ step s = .next t ∧
    t.status = ⟨1, true, true, true⟩ :=
  ⟨{ State.reset with
      rk := expand keyS1, w := schedule abcBlock, status := ⟨0, true, true, true⟩, pending := [.write 0x038 0x00] },
    { State.reset with rk := expand keyS1, w := schedule abcBlock, status := ⟨1, true, true, true⟩ },
    ⟨by decide, fun _ => expand_word keyS1, fun _ => schedule_word abcBlock⟩, rfl, rfl, rfl⟩
theorem witness_PaddingFillsWholeBlocks : (List.replicate 55 (0x61 : Byte)).length < 2 ^ 61 ∧
    (List.replicate 55 (0x61 : Byte)).length % 64 < 56 ∧ 56 ≤ (List.replicate 56 (0x61 : Byte)).length % 64 ∧
    2 ^ 61 ≤ (List.replicate (2 ^ 61) (0x61 : Byte)).length := by
  simp only [List.length_replicate]; decide
theorem witness_FileBlocksAreThePaddedBlocks : 2 ^ 61 ≤ (List.replicate (2 ^ 61) (0x61 : Byte)).length := by
  simp only [List.length_replicate]; decide
theorem witness_HostProgramIsNoCoreState : ∃ s s' : State, s.toCoreState = s'.toCoreState ∧ s.pending ≠ s'.pending ∧
    s.rdata ≠ s'.rdata :=
  ⟨readyState, { readyState with pending := [.write 0x038 0x70], rdata := some 0xAB }, rfl, by decide +kernel, by decide +kernel⟩

end Sys2Proof.Machine
end

section
/-! PROOFS of the family 10_state: the rules about what a command, a bus write and a step can do. -/

namespace Sys2Proof.Machine

/-! ### What a command does, said once -/

/-- The GFMUL command of a constant (R94). -/
def gfInstr : GfConst → Instr
  | .c01 => .gfmul01
  | .c02 => .gfmul02
  | .c03 => .gfmul03
  | .c09 => .gfmul09
  | .c0B => .gfmul0B
  | .c0D => .gfmul0D
  | .c0E => .gfmul0E

theorem exec_gfInstr (c : GfConst) (s : State) :
    exec (gfInstr c) s = .next ((s.setGfOut (mul c s.gfIn)).setErr 0) := by
  cases c <;> rfl

theorem isGf_gfInstr (c : GfConst) : isGf (gfInstr c) := by
  cases c <;> decide

/-- All that a command can do from `s`: the effect of each command that completes, with its preconditions, and the two
errors of R275 and R277 in the order of R280. `exec_eq_next_iff` ties it to `exec`. -/
inductive ExecEffect (s : State) : Instr → State → Prop where
  | gfmul (c : GfConst) : ExecEffect s (gfInstr c) ((s.setGfOut (mul c s.gfIn)).setErr 0)
  | keyexp : ExecEffect s .keyexp (s.expandKey.setErr 0)
  | aesEnc : ExecEffect s .aesEnc
      ((s.expandKey.setDout (storeState (cipher (expand s.key) (loadState s.din)))).setErr 0)
  | aesDec : ExecEffect s .aesDec
      ((s.expandKey.setDout (storeState (invCipher (expand s.key) (loadState s.din)))).setErr 0)
  | shaInit : ExecEffect s .shaInit ((((s.setH iv).setHValid true).setWValid false).setErr 0)
  | shaSched : ExecEffect s .shaSched (((s.setW (schedule s.msg)).setWValid true).setErr 0)
  | shaComp (hh : s.status.hValid = true) (hw : s.status.wValid = true) :
      ExecEffect s .shaComp (((s.setH (compress s.h s.w)).setWValid false).setErr 0)
  | shaBlock (hh : s.status.hValid = true) : ExecEffect s .shaBlock
      ((((s.setW (schedule s.msg)).setH (compress s.h (schedule s.msg))).setWValid false).setErr 0)
  | compNoHash (hh : s.status.hValid = false) : ExecEffect s .shaComp (s.setErr 4)
  | compNoSchedule (hh : s.status.hValid = true) (hw : s.status.wValid = false) :
      ExecEffect s .shaComp (s.setErr 3)
  | blockNoHash (hh : s.status.hValid = false) : ExecEffect s .shaBlock (s.setErr 4)

/-- Every effect listed is the one `exec` has. -/
theorem ExecEffect.exec_eq {s t : State} {i : Instr} (h : ExecEffect s i t) : exec i s = .next t := by
  cases h with
  | gfmul c => exact exec_gfInstr c s
  | keyexp => exact exec_keyexp s
  | aesEnc => exact exec_aesEnc s
  | aesDec => exact exec_aesDec s
  | shaInit => exact exec_shaInit s
  | shaSched => exact exec_shaSched s
  | shaComp hh hw => exact exec_shaComp_ok hh hw
  | shaBlock hh => exact exec_shaBlock_ok hh
  | compNoHash hh => rw [exec_shaComp, if_pos hh]
  | compNoSchedule hh hw => rw [exec_shaComp, if_neg (by simp [hh]), if_pos hw]
  | blockNoHash hh => rw [exec_shaBlock, if_pos hh]

/-- Every command has one of the effects listed. -/
theorem exists_execEffect (i : Instr) (s : State) : ∃ t, ExecEffect s i t := by
  cases i with
  | gfmul01 => exact ⟨_, .gfmul .c01⟩
  | gfmul02 => exact ⟨_, .gfmul .c02⟩
  | gfmul03 => exact ⟨_, .gfmul .c03⟩
  | gfmul09 => exact ⟨_, .gfmul .c09⟩
  | gfmul0B => exact ⟨_, .gfmul .c0B⟩
  | gfmul0D => exact ⟨_, .gfmul .c0D⟩
  | gfmul0E => exact ⟨_, .gfmul .c0E⟩
  | keyexp => exact ⟨_, .keyexp⟩
  | aesEnc => exact ⟨_, .aesEnc⟩
  | aesDec => exact ⟨_, .aesDec⟩
  | shaInit => exact ⟨_, .shaInit⟩
  | shaSched => exact ⟨_, .shaSched⟩
  | shaComp =>
    cases hh : s.status.hValid with
    | false => exact ⟨_, .compNoHash hh⟩
    | true =>
      cases hw : s.status.wValid with
      | false => exact ⟨_, .compNoSchedule hh hw⟩
      | true => exact ⟨_, .shaComp hh hw⟩
  | shaBlock =>
    cases hh : s.status.hValid with
    | false => exact ⟨_, .blockNoHash hh⟩
    | true => exact ⟨_, .shaBlock hh⟩

/-- `exec` answers exactly the effects listed. -/
theorem exec_eq_next_iff {i : Instr} {s t : State} : exec i s = .next t ↔ ExecEffect s i t := by
  refine ⟨fun h => ?_, ExecEffect.exec_eq⟩
  obtain ⟨u, hu⟩ := exists_execEffect i s
  obtain rfl : u = t := by simpa [hu.exec_eq] using h
  exact hu

/-! ### What a command writes: each result register and valid bit -/

namespace ExecEffect

variable {s t : State} {i : Instr}

/-- No command writes the host's input registers (R65). -/
theorem inputs_eq (h : ExecEffect s i t) : t.key = s.key ∧ t.din = s.din ∧ t.gfIn = s.gfIn ∧ t.msg = s.msg := by
  cases h <;> exact ⟨rfl, rfl, rfl, rfl⟩

/-- No command touches the model's own two fields (logs 1 and 2). -/
theorem host_eq (h : ExecEffect s i t) : t.pending = s.pending ∧ t.rdata = s.rdata := by
  cases h <;> exact ⟨rfl, rfl⟩

/-- `DOUT` is written by AES_ENC and AES_DEC, and on success only (R28). -/
theorem dout_writer (h : ExecEffect s i t) (hne : t.dout ≠ s.dout) :
    (i = .aesEnc ∨ i = .aesDec) ∧ t.status.err = 0 := by
  cases h with
  | aesEnc => exact ⟨.inl rfl, rfl⟩
  | aesDec => exact ⟨.inr rfl, rfl⟩
  | _ => exact absurd rfl hne

/-- `GF_OUT` is written by the GFMUL commands (R29). -/
theorem gfOut_writer (h : ExecEffect s i t) (hne : t.gfOut ≠ s.gfOut) : isGf i ∧ t.status.err = 0 := by
  cases h with
  | gfmul c => exact ⟨isGf_gfInstr c, rfl⟩
  | _ => exact absurd rfl hne

/-- `RK` is written by the three AES commands (R30). -/
theorem rk_writer (h : ExecEffect s i t) (hne : t.rk ≠ s.rk) : isAes i ∧ t.status.err = 0 := by
  cases h with
  | keyexp => exact ⟨.inl rfl, rfl⟩
  | aesEnc => exact ⟨.inr (.inl rfl), rfl⟩
  | aesDec => exact ⟨.inr (.inr rfl), rfl⟩
  | _ => exact absurd rfl hne

/-- `W` is written by SHA_SCHED and SHA_BLOCK, and on success only (R31). -/
theorem w_writer (h : ExecEffect s i t) (hne : t.w ≠ s.w) :
    (i = .shaSched ∨ i = .shaBlock) ∧ t.status.err = 0 := by
  cases h with
  | shaSched => exact ⟨.inl rfl, rfl⟩
  | shaBlock => exact ⟨.inr rfl, rfl⟩
  | _ => exact absurd rfl hne

/-- `H` is written by SHA_INIT, SHA_COMP and SHA_BLOCK, and on success only (R32). -/
theorem h_writer (h : ExecEffect s i t) (hne : t.h ≠ s.h) :
    (i = .shaInit ∨ i = .shaComp ∨ i = .shaBlock) ∧ t.status.err = 0 := by
  cases h with
  | shaInit => exact ⟨.inl rfl, rfl⟩
  | shaComp => exact ⟨.inr (.inl rfl), rfl⟩
  | shaBlock => exact ⟨.inr (.inr rfl), rfl⟩
  | _ => exact absurd rfl hne

end ExecEffect

/-! ### What a bus write and a step do -/

/-- What a write to `CMD` does: the effect of the command its byte decodes to, or the code of the decoder's error. -/
theorem runCommand_next {v : Byte} {s t : State} (h : runCommand v s = .next t) :
    (∃ i, decode v = .ok i ∧ ExecEffect s i t) ∨ ∃ e, decode v = .error e ∧ t = s.setErr (errCode e) := by
  obtain ⟨i, hi, hrun⟩ | ⟨e, he, hrun⟩ := runCommand_cases v s
  · exact .inl ⟨i, hi, exec_eq_next_iff.mp (hrun ▸ h)⟩
  · refine .inr ⟨e, he, ?_⟩
    simpa [hrun, eq_comm] using h

/-- Every byte written to `CMD` answers a next state (R270). -/
theorem exists_runCommand_next (v : Byte) (s : State) : ∃ t, runCommand v s = .next t := by
  obtain ⟨i, -, hrun⟩ | ⟨e, -, hrun⟩ := runCommand_cases v s
  · obtain ⟨t, ht⟩ := exists_execEffect i s
    exact ⟨t, hrun.trans ht.exec_eq⟩
  · exact ⟨_, hrun⟩

/-- A host write runs a command word, or leaves `STATUS` and the two schedules as they are (R65, R67, R71, R72). -/
theorem busWrite_next {a : Addr} {v : Byte} {s t : State} (h : busWrite a v s = .next t) :
    runCommand v s = .next t ∨ (t.status = s.status ∧ t.rk = s.rk ∧ t.w = s.w) := by
  by_cases ha : region a = .cmd
  · left
    simpa only [busWrite, ha] using h
  · right
    obtain ⟨i, hw⟩ | ⟨i, hw⟩ | ⟨i, hw⟩ | hw | hw := busWrite_cases a v s ha <;>
      (cases hw.symm.trans h; exact ⟨rfl, rfl, rfl⟩)

/-- A step from `s` is idle, or answers the oldest pending event. -/
theorem step_next {s t : State} (h : step s = .next t) :
    t = s ∨ ∃ e es, s.pending = e :: es ∧ hostEvent e ((s.setPending es).setRdata none) = .next t := by
  cases hp : s.pending with
  | nil =>
    left
    simpa [step_idle hp, eq_comm] using h
  | cons e es => exact .inr ⟨e, es, rfl, step_event hp ▸ h⟩

/-! ### The invariant -/

/-- The invariant speaks of `STATUS`, `RK` and `W` only. -/
theorem CoreInv.of_eq {s t : State} (h : CoreInv s) (hst : t.status = s.status ∧ t.rk = s.rk ∧ t.w = s.w) :
    CoreInv t := by
  obtain ⟨hstatus, hrk, hw⟩ := hst
  constructor
  · rw [hstatus]; exact h.err_defined
  · rw [hstatus, hrk]; exact h.rk_valid
  · rw [hstatus, hw]; exact h.w_valid

/-- Writing a code that is not reserved into `ERR` keeps the invariant (R35). -/
theorem CoreInv.setErr {s : State} {c : BitVec 3} (h : CoreInv s) (hc : c.toNat ≤ 4) : CoreInv (s.setErr c) :=
  ⟨hc, h.rk_valid, h.w_valid⟩

/-- No command error has a reserved code (R35, R272). -/
theorem errCode_toNat_le (e : CmdError) : (errCode e).toNat ≤ 4 := by
  cases e <;> decide

/-- `expand` writes a key schedule into `RK` as it sets `RK_VALID` (R154). -/
theorem CoreInv.expandKey {s : State} (h : CoreInv s) : CoreInv s.expandKey :=
  ⟨h.err_defined, fun _ => expand_word s.key, h.w_valid⟩

/-- Every command keeps the invariant: one that sets a valid bit writes a schedule, and one that writes a schedule
without setting its bit clears it. -/
theorem CoreInv.of_execEffect {s t : State} {i : Instr} (h : CoreInv s) (heff : ExecEffect s i t) : CoreInv t := by
  cases heff with
  | gfmul c => exact .setErr (h.of_eq ⟨rfl, rfl, rfl⟩) (by decide)
  | keyexp => exact .setErr h.expandKey (by decide)
  | aesEnc | aesDec => exact .setErr (h.expandKey.of_eq ⟨rfl, rfl, rfl⟩) (by decide)
  | shaSched => exact .setErr ⟨h.err_defined, h.rk_valid, fun _ => schedule_word s.msg⟩ (by decide)
  | shaInit | shaComp | shaBlock =>
    exact .setErr ⟨h.err_defined, h.rk_valid, fun hw => absurd hw Bool.false_ne_true⟩ (by decide)
  | compNoHash | compNoSchedule | blockNoHash => exact h.setErr (by decide)

/-- Every byte written to `CMD` keeps the invariant. -/
theorem CoreInv.runCommand {v : Byte} {s t : State} (h : CoreInv s) (hrun : runCommand v s = .next t) : CoreInv t := by
  obtain ⟨i, -, heff⟩ | ⟨e, -, rfl⟩ := runCommand_next hrun
  · exact h.of_execEffect heff
  · exact h.setErr (errCode_toNat_le e)

/-- A reset leaves no valid bit set and no error. -/
theorem CoreInv.resetWith (d : Draw) (es : List HostEvent) : CoreInv (State.resetWith d es) :=
  ⟨Nat.zero_le 4, fun h => absurd h Bool.false_ne_true, fun h => absurd h Bool.false_ne_true⟩

/-- Every host event keeps the invariant. -/
theorem CoreInv.hostEvent {e : HostEvent} {s t : State} (h : CoreInv s) (he : hostEvent e s = .next t) : CoreInv t := by
  cases e with
  | read a =>
    cases he
    exact h.of_eq ⟨rfl, rfl, rfl⟩
  | write a v =>
    obtain hrun | hsame := busWrite_next he
    · exact h.runCommand hrun
    · exact h.of_eq hsame
  | reset d | resetDuring _ _ d =>
    cases he
    exact CoreInv.resetWith d s.pending

/-- Settles O48: a step is idle or answers an event, and every event keeps the invariant. -/
theorem stepKeepsInv : Obligations.StepKeepsInv := by
  intro s t h hstep
  obtain rfl | ⟨e, es, -, he⟩ := step_next hstep
  · exact h
  · exact (h.of_eq ⟨rfl, rfl, rfl⟩ : CoreInv ((s.setPending es).setRdata none)).hostEvent he

end Sys2Proof.Machine
end

section
/-! PROOFS of the family 10_state: command words, frames and valid bits. -/

namespace Sys2Proof.Machine

/-! ### Command words and their commands -/

/-- The fields of a command byte make the byte again (R90). -/
theorem toByte_ofByte (v : Byte) : (CommandWord.ofByte v).toByte = v := by
  revert v
  decide +kernel

/-- Only a command's own fields decode to it (R94, R95). -/
theorem encodeFields_of_decodeFields {c : CommandWord} {i : Instr} (h : decodeFields c = .ok i) :
    encodeFields i = c := by
  obtain ⟨opc, fn⟩ := c
  simp only [decodeFields, decodeGfmul, decodePlain] at h
  split_ifs at h <;> cases h <;> simp_all [encodeFields]

/-- Only a command's own byte decodes to it (R94, R95). -/
theorem encode_of_decode {v : Byte} {i : Instr} (h : decode v = .ok i) : encode i = v := by
  rw [encode, encodeFields_of_decodeFields h, toByte_ofByte]

/-- The byte of a command decodes to it (R94, R95). -/
theorem decode_encode (i : Instr) : decode (encode i) = .ok i := by
  cases i <;> decide

/-- Different commands have different bytes (R94). -/
@[simp] theorem encode_inj {i j : Instr} : encode i = encode j ↔ i = j := by
  refine ⟨fun h => ?_, congrArg encode⟩
  simpa [decode_encode] using congrArg decode h

/-- The byte of a GFMUL command (R94). -/
theorem encode_mem_of_isGf {i : Instr} (h : isGf i) : encode i ∈ [0x11, 0x12, 0x13, 0x19, 0x1B, 0x1D, 0x1E] := by
  obtain rfl | rfl | rfl | rfl | rfl | rfl | rfl := h <;> decide

/-- The bytes of the commands other than GFMUL (R94). -/
theorem plainBytes_eq_encode :
    (0x20 : Byte) = encode .keyexp ∧ (0x30 : Byte) = encode .aesEnc ∧ (0x40 : Byte) = encode .aesDec ∧
      (0x50 : Byte) = encode .shaInit ∧ (0x60 : Byte) = encode .shaSched ∧ (0x70 : Byte) = encode .shaComp ∧
      (0x80 : Byte) = encode .shaBlock := by
  decide

/-- The code of a command error is not the code of success (R272). -/
theorem errCode_ne_zero (e : CmdError) : errCode e ≠ 0 := by
  cases e <;> decide

/-! ### Result registers -/

/-- Settles O39: each result register has its writers, and a byte that decodes to a writer is the writer's byte. -/
theorem resultRegistersHaveTheirWriters : Obligations.ResultRegistersHaveTheirWriters := by
  intro v s t h
  obtain ⟨i, hi, heff⟩ | ⟨e, -, rfl⟩ := runCommand_next ((hostEvent_cmd v s).symm.trans h)
  · obtain rfl := encode_of_decode hi
    refine ⟨fun hne => ?_, fun hne => ?_, fun hne => ?_, fun hne => ?_, fun hne => ?_⟩
    · obtain ⟨rfl | rfl, hok⟩ := heff.dout_writer hne
      exacts [⟨.inl rfl, hok⟩, ⟨.inr rfl, hok⟩]
    · obtain ⟨hgf, hok⟩ := heff.gfOut_writer hne
      exact ⟨encode_mem_of_isGf hgf, hok⟩
    · obtain ⟨rfl | rfl | rfl, hok⟩ := heff.rk_writer hne
      exacts [⟨.inl rfl, hok⟩, ⟨.inr (.inl rfl), hok⟩, ⟨.inr (.inr rfl), hok⟩]
    · obtain ⟨rfl | rfl, hok⟩ := heff.w_writer hne
      exacts [⟨.inl rfl, hok⟩, ⟨.inr rfl, hok⟩]
    · obtain ⟨rfl | rfl | rfl, hok⟩ := heff.h_writer hne
      exacts [⟨.inl rfl, hok⟩, ⟨.inr (.inl rfl), hok⟩, ⟨.inr (.inr rfl), hok⟩]
  · exact ⟨absurd rfl, absurd rfl, absurd rfl, absurd rfl, absurd rfl⟩

/-! ### Valid bits -/

/-- A command that fails changes `ERR` and nothing else (R271). -/
theorem ExecEffect.eq_setErr {s t : State} {i : Instr} (h : ExecEffect s i t) (hne : t.status.err ≠ 0) :
    t = s.setErr t.status.err := by
  cases h with
  | compNoHash | compNoSchedule | blockNoHash => rfl
  | _ => exact absurd rfl hne

/-- The valid bits after a command that succeeds, as the table of R33 has them. -/
theorem ExecEffect.valid_bits {s t : State} {i : Instr} (h : ExecEffect s i t) (h0 : t.status.err = 0) :
    t.status.rkValid = (s.status.rkValid || decide (isAes i)) ∧
      t.status.hValid = (s.status.hValid || decide (i = .shaInit)) ∧
      t.status.wValid =
        if i = .shaSched then true else if i = .shaInit ∨ i = .shaComp ∨ i = .shaBlock then false
        else s.status.wValid := by
  cases h with
  | gfmul c => cases c <;> simp [gfInstr, isAes]
  | compNoHash | compNoSchedule | blockNoHash => simp at h0
  | _ => simp

/-- No command clears `RK_VALID` or `H_VALID` (R33, D11). -/
theorem ExecEffect.valid_stands {s t : State} {i : Instr} (h : ExecEffect s i t) :
    (s.status.rkValid = true → t.status.rkValid = true) ∧ (s.status.hValid = true → t.status.hValid = true) := by
  by_cases h0 : t.status.err = 0
  · obtain ⟨hrk, hh, -⟩ := h.valid_bits h0
    simp +contextual [hrk, hh]
  · rw [h.eq_setErr h0]
    exact ⟨id, id⟩

/-- Settles O40: a byte that decodes follows the table of its command, and one that does not changes `ERR` only. -/
theorem validBitsFollowTheTable : Obligations.ValidBitsFollowTheTable := by
  intro v s
  obtain ⟨t, ht⟩ := exists_runCommand_next v s
  refine ⟨t, (hostEvent_cmd v s).trans ht, ?_⟩
  obtain ⟨i, hi, heff⟩ | ⟨e, -, rfl⟩ := runCommand_next ht
  · obtain rfl := encode_of_decode hi
    constructor
    · intro hne
      rw [heff.eq_setErr hne]
      exact ⟨rfl, rfl, rfl⟩
    · intro h0
      obtain ⟨h20, h30, h40, h50, h60, h70, h80⟩ := plainBytes_eq_encode
      simp only [h20, h30, h40, h50, h60, h70, h80, encode_inj]
      exact heff.valid_bits h0
  · exact ⟨fun _ => ⟨rfl, rfl, rfl⟩, fun h0 => absurd h0 (errCode_ne_zero e)⟩

/-- No host write clears `RK_VALID` or `H_VALID`. -/
theorem busWrite_valid_stands {a : Addr} {v : Byte} {s t : State} (h : busWrite a v s = .next t) :
    (s.status.rkValid = true → t.status.rkValid = true) ∧ (s.status.hValid = true → t.status.hValid = true) := by
  obtain hrun | ⟨hstatus, -, -⟩ := busWrite_next h
  · obtain ⟨i, -, heff⟩ | ⟨e, -, rfl⟩ := runCommand_next hrun
    · exact heff.valid_stands
    · exact ⟨id, id⟩
  · rw [hstatus]
    exact ⟨id, id⟩

/-- Settles O43: neither an idle step, nor a read, nor a write clears one of the two bits. -/
theorem validBitsStandUntilReset : Obligations.ValidBitsStandUntilReset := by
  intro s t hstep hcleared
  obtain rfl | ⟨e, es, hp, he⟩ := step_next hstep
  · simp at hcleared
  refine ⟨e, es, hp, ?_⟩
  cases e with
  | read a =>
    cases he
    simp at hcleared
  | write a v =>
    obtain ⟨hrk, hh⟩ := busWrite_valid_stands he
    obtain ⟨hset, hclear⟩ | ⟨hset, hclear⟩ := hcleared
    · exact absurd ((hh hset).symm.trans hclear) (by decide)
    · exact absurd ((hrk hset).symm.trans hclear) (by decide)
  | reset d => exact .inl ⟨d, rfl⟩
  | resetDuring a v d => exact .inr ⟨a, v, d, rfl⟩

/-! ### The addresses a command may change -/

/-- What stands at an address, the address map read from the register's side (R64, R71). -/
def Region.Spans : Region → Addr → Prop
  | .key i, a    => a.toNat = i.val
  | .din i, a    => a.toNat = 0x010 + i.val
  | .dout i, a   => a.toNat = 0x020 + i.val
  | .gfIn, a     => a.toNat = 0x030
  | .gfOut, a    => a.toNat = 0x031
  | .cmd, a      => a.toNat = 0x038
  | .status, a   => a.toNat = 0x039
  | .msg i, a    => a.toNat = 0x040 + i.val
  | .hview i, a  => a.toNat = 0x080 + i.val
  | .rkview i, a => a.toNat = 0x100 + i.val
  | .wview i, a  => a.toNat = 0x200 + i.val
  | .reserved, a => inReserved a

/-- A choice between two regions spans an address when each of them does under its condition. -/
theorem Region.dite_spans {p : Prop} [Decidable p] {f : p → Region} {g : ¬ p → Region} {a : Addr}
    (hf : ∀ h, (f h).Spans a) (hg : ∀ h, (g h).Spans a) : (dite p f g).Spans a := by
  by_cases h : p
  · rw [dif_pos h]; exact hf h
  · rw [dif_neg h]; exact hg h

/-- Every address lies where the map says its register stands. -/
theorem region_spans (a : Addr) : (region a).Spans a := by
  have ha : a.toNat < 1024 := a.isLt
  unfold region
  extract_lets n
  repeat' first
    | refine Region.dite_spans (fun _ => ?_) (fun _ => ?_)
    | refine iteInduction (motive := (Region.Spans · a)) (fun _ => ?_) (fun _ => ?_)
  all_goals simp only [Region.Spans, inReserved]; omega

/-- Every command may change the status byte. -/
theorem mayChange_of_inStatus (i : Instr) {a : Addr} (h : inStatus a) : mayChange i a := by
  cases i <;> exact Or.inl h

/-- A command changes no byte outside the addresses of the registers its rule writes (R23). -/
theorem ExecEffect.busRead_eq {s t : State} {i : Instr} (h : ExecEffect s i t) {a : Addr} (hno : ¬ mayChange i a) :
    busRead t a = busRead s a := by
  have hspan := region_spans a
  obtain ⟨hkey, hdin, hgfIn, hmsg⟩ := h.inputs_eq
  unfold busRead
  cases hr : region a <;> simp only [hr, Region.Spans] at hspan ⊢
  case key j => rw [hkey]
  case din j => rw [hdin]
  case gfIn => rw [hgfIn]
  case msg j => rw [hmsg]
  case status => exact absurd (mayChange_of_inStatus i (BitVec.eq_of_toNat_eq hspan)) hno
  case dout j =>
    have hdout : t.dout = s.dout := by
      by_contra hne
      obtain ⟨rfl | rfl, -⟩ := h.dout_writer hne <;> exact hno (Or.inr (Or.inr (by omega)))
    rw [hdout]
  case gfOut =>
    by_contra hne
    obtain ⟨rfl | rfl | rfl | rfl | rfl | rfl | rfl, -⟩ := h.gfOut_writer hne <;>
      exact hno (Or.inr (BitVec.eq_of_toNat_eq hspan))
  case hview j =>
    have hh : t.h = s.h := by
      by_contra hne
      obtain ⟨rfl | rfl | rfl, -⟩ := h.h_writer hne
      exacts [hno (Or.inr (by omega)), hno (Or.inr (by omega)), hno (Or.inr (Or.inr (by omega)))]
    rw [hh]
  case rkview j =>
    have hrk : t.rk = s.rk := by
      by_contra hne
      obtain ⟨rfl | rfl | rfl, -⟩ := h.rk_writer hne
      exacts [hno (Or.inr (by omega)), hno (Or.inr (Or.inl (by omega))), hno (Or.inr (Or.inl (by omega)))]
    rw [hrk]
  case wview j =>
    have hw : t.w = s.w := by
      by_contra hne
      obtain ⟨rfl | rfl, -⟩ := h.w_writer hne
      exacts [hno (Or.inr (by omega)), hno (Or.inr (Or.inl (by omega)))]
    rw [hw]

/-- Settles O37: the byte at an address outside a command's addresses is that of a register the command leaves. -/
theorem commandsChangeOnlyTheirAddresses : Obligations.CommandsChangeOnlyTheirAddresses := by
  intro i s
  obtain ⟨t, ht⟩ := exists_execEffect i s
  exact ⟨t, ht.exec_eq, fun a hno => ht.busRead_eq hno⟩

/-! ### The host program is no state of the core -/

/-- A command's effect does not depend on the model's own two fields. -/
theorem ExecEffect.setHost {s t : State} {i : Instr} (h : ExecEffect s i t) (es : List HostEvent) (r : Option Byte) :
    ExecEffect ((s.setPending es).setRdata r) i ((t.setPending es).setRdata r) := by
  cases h with
  | gfmul c => exact .gfmul c
  | keyexp => exact .keyexp
  | aesEnc => exact .aesEnc
  | aesDec => exact .aesDec
  | shaInit => exact .shaInit
  | shaSched => exact .shaSched
  | shaComp hh hw => exact .shaComp hh hw
  | shaBlock hh => exact .shaBlock hh
  | compNoHash hh => exact .compNoHash hh
  | compNoSchedule hh hw => exact .compNoSchedule hh hw
  | blockNoHash hh => exact .blockNoHash hh

/-- A byte written to `CMD` leaves the model's own two fields, and its effect does not depend on them. -/
theorem runCommand_setHost (v : Byte) (s : State) (es : List HostEvent) (r : Option Byte) :
    ∃ t, runCommand v s = .next t ∧ t.pending = s.pending ∧
      runCommand v ((s.setPending es).setRdata r) = .next ((t.setPending es).setRdata r) := by
  cases hv : decode v with
  | ok i =>
    obtain ⟨t, ht⟩ := exists_execEffect i s
    simp only [runCommand_ok hv]
    exact ⟨t, ht.exec_eq, ht.host_eq.1, (ht.setHost es r).exec_eq⟩
  | error e =>
    simp only [runCommand_error hv]
    exact ⟨_, rfl, rfl, rfl⟩

/-- A host write leaves `pending`, and its effect does not depend on the model's own two fields. -/
theorem busWrite_setHost (a : Addr) (v : Byte) (s : State) (es : List HostEvent) (r : Option Byte) :
    ∃ t, busWrite a v s = .next t ∧ t.pending = s.pending ∧
      busWrite a v ((s.setPending es).setRdata r) = .next ((t.setPending es).setRdata r) := by
  unfold busWrite
  cases region a with
  | cmd => exact runCommand_setHost v s es r
  | _ => exact ⟨_, rfl, rfl, rfl⟩

/-- A read depends on the core's record alone (R75). -/
theorem busRead_congr {s s' : State} (h : s.toCoreState = s'.toCoreState) (a : Addr) : busRead s a = busRead s' a := by
  rw [State.eq_of_toCoreState h]
  rfl

/-- Settles O52: the two states differ in `pending` and `rdata` at most, and no effect depends on these. -/
theorem hostProgramIsNoCoreState : Obligations.HostProgramIsNoCoreState := by
  intro s s' hcore
  refine ⟨fun i => ?_, fun e => ?_, busRead_congr hcore⟩
  · obtain ⟨t, ht⟩ := exists_execEffect i s
    have ht' := (ht.setHost s'.pending s'.rdata).exec_eq
    rw [← State.eq_of_toCoreState hcore] at ht'
    exact ⟨t, _, ht.exec_eq, ht', rfl, ht.host_eq⟩
  · cases e with
    | read a => exact ⟨_, _, rfl, rfl, hcore, rfl⟩
    | write a v =>
      obtain ⟨t, ht, hp, ht'⟩ := busWrite_setHost a v s s'.pending s'.rdata
      rw [← State.eq_of_toCoreState hcore] at ht'
      exact ⟨t, _, ht, ht', rfl, hp⟩
    | reset d | resetDuring _ _ d => exact ⟨_, _, rfl, rfl, rfl, rfl⟩

end Sys2Proof.Machine
end

section
/-! PROOFS of the family 10_state: the step on the host's transactions, the constant tables and the status byte. -/

namespace Sys2Proof.Machine

/-! ### The step on a transaction -/

/-- A step whose oldest event is a write to `CMD` runs the byte (R40, R67). -/
theorem step_cmd {s : State} {v : Byte} {es : List HostEvent} (hp : s.pending = .write cmdAddr v :: es) :
    step s = runCommand v ((s.setPending es).setRdata none) := by
  rw [step_event hp, hostEvent_cmd]

/-- A table word names the command its first byte decodes to (R91, log 9). -/
theorem decode_of_decodeTableWord {nbits w : Nat} {i : Instr} (h : decodeTableWord nbits w = some i) :
    decode (tableByte nbits w) = .ok i := by
  unfold decodeTableWord at h
  split at h
  case h_1 j hd => rw [hd, Option.some.inj h]
  case h_2 => cases h

/-- Settles O5: the step takes the write off the input, and its byte runs as it decodes. -/
theorem stepRunsTheDecodedCommand : Obligations.StepRunsTheDecodedCommand := by
  refine ⟨fun s v i es hp hv => ?_, fun s v e es hp hv => ?_, fun s nbits w i hw => ?_⟩
  · exact (step_cmd hp).trans (runCommand_ok hv _)
  · exact (step_cmd hp).trans (runCommand_error hv _)
  · have hp : (s.withFetchWord nbits w).pending = .write cmdAddr (tableByte nbits w) :: s.pending := rfl
    exact (step_cmd hp).trans (runCommand_ok (decode_of_decodeTableWord hw) _)

/-- Settles O6: no event, a read, a write. -/
theorem stepServesTheOldestEvent : Obligations.StepServesTheOldestEvent := by
  refine ⟨fun s hp => step_idle hp, fun s a es hp => ?_, fun s a v es hp => step_event hp⟩
  have hread : busRead ((s.setPending es).setRdata none) a = busRead s a := busRead_congr rfl a
  rw [step_event hp, hostEvent, hread]
  rfl

/-! ### The constant tables -/

/-- The inverse of the affine map of the S-box. -/
def sboxAffineInv (x : Byte) : Byte :=
  x.rotateLeft 1 ^^^ x.rotateLeft 3 ^^^ x.rotateLeft 6 ^^^ 0x05

theorem sboxAffine_sboxAffineInv (x : Byte) : sboxAffine (sboxAffineInv x) = x := by
  revert x
  decide +kernel

/-- Undoing the affine map on an entry of the S-box gives the field inverse of its index (R47). -/
theorem gfProduct_sboxAffineInv_sbox (a : Byte) (ha : a ≠ 0) : gfProduct a (sboxAffineInv (sbox a)) = 1 := by
  revert a
  decide +kernel

theorem invSbox_sbox (a : Byte) : invSbox (sbox a) = a := by
  revert a
  decide +kernel

theorem sbox_invSbox (a : Byte) : sbox (invSbox a) = a := by
  revert a
  decide +kernel

/-- Settles O21: the field inverse of `a` is read off `SBOX[a]` by undoing the affine map. -/
theorem sboxIsTheAffineInverse : Obligations.SboxIsTheAffineInverse := by
  refine ⟨fun a => ⟨sboxAffineInv (sbox a), ?_, gfProduct_sboxAffineInv_sbox a, ?_⟩, invSbox_sbox, sbox_invSbox⟩
  · rintro rfl
    decide
  · exact (sboxAffine_sboxAffineInv (sbox a)).symm

/-- Each round constant but the first is the doubling of the one before (R49). -/
theorem rcon_succ (n : Fin 9) : rcon[n.val + 1] = xtime rcon[n.val] := by
  revert n
  decide

/-- Settles O22: the constants from RCON[1] on are doublings. -/
theorem rconByDoubling : Obligations.RconByDoubling := by
  refine ⟨rfl, fun j ⟨hj1, hj10⟩ => ?_⟩
  obtain ⟨n, rfl⟩ : ∃ n, j = n + 1 := ⟨j - 1, by omega⟩
  exact rcon_succ ⟨n, by omega⟩

/-- `K[t]` is the cube root of the `t`-th prime, scaled by 2^32, without its whole part (R50). -/
theorem kConst_eq_nthRoot (t : Fin 64) :
    (kConst t.val t.isLt).toNat = Nat.nthRoot 3 (firstPrimes.getD t.val 0 * 2 ^ 96) % 2 ^ 32 := by
  revert t
  decide +kernel

/-- `IV[j]` is the square root of the `j`-th prime, scaled by 2^32, without its whole part (R51). -/
theorem iv_eq_nthRoot (j : Fin 8) : iv[j].toNat = Nat.nthRoot 2 (firstPrimes.getD j.val 0 * 2 ^ 64) % 2 ^ 32 := by
  revert j
  decide +kernel

/-- The list is of the primes below 312 (R50, R51). -/
theorem firstPrimes_eq : firstPrimes = (List.range 312).filter Nat.Prime := by
  decide +kernel

/-- Settles O23: the roots are Mathlib's integer roots `Nat.nthRoot`, whose bounds it proves. -/
theorem shaConstantsAreRootsOfPrimes : Obligations.ShaConstantsAreRootsOfPrimes := by
  refine ⟨firstPrimes_eq, fun t ht => ⟨_, ?_, ?_, kConst_eq_nthRoot ⟨t, ht⟩⟩, fun j => ⟨_, ?_, ?_, iv_eq_nthRoot j⟩⟩
  · exact Nat.pow_nthRoot_le (.inl (by decide))
  · exact Nat.lt_pow_nthRoot_add_one (by decide) _
  · exact Nat.pow_nthRoot_le (.inl (by decide))
  · exact Nat.lt_pow_nthRoot_add_one (by decide) _

/-! ### The status byte -/

/-- The fields of the status byte (R33). -/
theorem Status.toByte_fields (st : Status) :
    st.toByte.extractLsb' 0 3 = st.err ∧ st.toByte.getLsbD 3 = st.rkValid ∧ st.toByte.getLsbD 4 = st.wValid ∧
      st.toByte.getLsbD 5 = st.hValid ∧ st.toByte.extractLsb' 6 2 = 0#2 := by
  obtain ⟨err, rk, w, h⟩ := st
  revert err rk w h
  unfold Status.toByte
  decide

/-- The host reads `STATUS` at 0x039 (R64). -/
theorem busRead_status (s : State) : busRead s 0x039 = s.status.toByte := by
  simp only [busRead, region_status]

/-- Settles O35: the byte at 0x039 is that of `STATUS`. -/
theorem statusByteLayout : Obligations.StatusByteLayout := by
  intro s
  rw [busRead_status]
  exact s.status.toByte_fields

end Sys2Proof.Machine
end

section
/-! PROOFS of the family 20_memory: the address map read from the register's side, and what a host read and a host write
do there. -/

namespace Sys2Proof.Machine

/-! ### The address map -/

/-- No two regions span one address: the ranges of R64 are disjoint. -/
theorem Region.Spans.unique {r q : Region} {a : Addr} (hr : r.Spans a) (hq : q.Spans a) : r = q := by
  cases r <;> cases q <;>
    simp only [Region.Spans, Fin.ext_iff, Region.key.injEq, Region.din.injEq, Region.dout.injEq, Region.msg.injEq,
      Region.hview.injEq, Region.rkview.injEq, Region.wview.injEq, reduceCtorEq] at hr hq ⊢ <;>
    omega

/-- The map names the region that spans the address, and no other (R64). -/
theorem region_eq_iff {r : Region} {a : Addr} : region a = r ↔ r.Spans a :=
  ⟨fun h => h ▸ region_spans a, fun h => (region_spans a).unique h⟩

/-- The map is one-to-one outside the reserved addresses (R64). -/
theorem region_inj {a b : Addr} (hr : region a ≠ .reserved) (h : region a = region b) : a = b := by
  have ha := region_spans a
  have hb := region_spans b
  rw [← h] at hb
  cases hra : region a <;> rw [hra] at ha hb
  case reserved => exact absurd hra hr
  all_goals exact BitVec.eq_of_toNat_eq (ha.trans hb.symm)

/-- The byte of the state that stands at a region: what the registers and views of R64 to R71 hold. -/
def Region.byte (s : State) : Region → Byte
  | .key i    => s.key[i]
  | .din i    => s.din[i]
  | .dout i   => s.dout[i]
  | .gfIn     => s.gfIn
  | .gfOut    => s.gfOut
  | .cmd      => 0x00
  | .status   => s.status.toByte
  | .msg i    => s.msg[i]
  | .hview i  => viewByte s.h i.val (by omega)
  | .rkview i => viewByte s.rk i.val (by omega)
  | .wview i  => viewByte s.w i.val (by omega)
  | .reserved => 0x00

theorem busRead_eq_byte (s : State) (a : Addr) : busRead s a = (region a).byte s := by
  unfold busRead
  cases region a <;> rfl

/-- A read where a register stands gives its byte. -/
theorem busRead_of_spans {r : Region} {a : Addr} (h : r.Spans a) (s : State) : busRead s a = r.byte s := by
  rw [busRead_eq_byte, region_eq_iff.mpr h]

/-- The registers that store a byte the host writes (R65). -/
def Region.IsStorage : Region → Prop
  | .key _ | .din _ | .gfIn | .msg _ => True
  | _ => False

theorem isStorage_region_iff {a : Addr} : (region a).IsStorage ↔ inStorage a := by
  have hspan := region_spans a
  cases hr : region a <;>
    simp only [hr, Region.Spans, Region.IsStorage, true_iff, false_iff] at hspan ⊢ <;>
    omega

theorem region_eq_cmd_iff {a : Addr} : region a = .cmd ↔ a = 0x038 :=
  region_eq_iff.trans ⟨fun h => BitVec.eq_of_toNat_eq h, fun h => h ▸ rfl⟩

/-- No address of storage is that of `CMD`. -/
theorem ne_cmd_of_inStorage {a : Addr} (h : inStorage a) : a ≠ 0x038 := by
  rintro rfl
  exact absurd h (by decide)

/-- A reserved or read-only address is neither that of `CMD` nor one of storage. -/
theorem not_cmd_not_inStorage {a : Addr} (h : inReserved a ∨ inReadOnly a) : a ≠ 0x038 ∧ ¬ inStorage a := by
  simp only [inReadOnly, inStatus] at h
  bv_omega

/-! ### What a write stores -/

/-- The state with the byte `v` stored at a region, the same state where the region stores none (R65, R71, R72). -/
def Region.store (v : Byte) (s : State) : Region → State
  | .key i => s.setKeyByte i v
  | .din i => s.setDinByte i v
  | .gfIn  => s.setGfIn v
  | .msg i => s.setMsgByte i v
  | _      => s

/-- A write to an address other than that of `CMD` stores its byte and does no more (R75). -/
theorem busWrite_eq_store {a : Addr} (ha : a ≠ 0x038) (v : Byte) (s : State) :
    busWrite a v s = .next ((region a).store v s) := by
  have hcmd : region a ≠ .cmd := mt region_eq_cmd_iff.mp ha
  unfold busWrite
  cases hr : region a
  case cmd => exact absurd hr hcmd
  all_goals rfl

theorem Region.store_of_not_isStorage {r : Region} (h : ¬ r.IsStorage) (v : Byte) (s : State) : r.store v s = s := by
  cases r
  case key | din | gfIn | msg => exact absurd trivial h
  all_goals rfl

/-- Storing a byte changes the host's input registers at most (R65). -/
theorem Region.store_frame (r : Region) (v : Byte) (s : State) :
    r.store v s = { s with
      key := (r.store v s).key, din := (r.store v s).din, gfIn := (r.store v s).gfIn, msg := (r.store v s).msg } := by
  cases r <;> rfl

/-- A stored byte is read back (R65). -/
theorem Region.byte_store_same {r : Region} (h : r.IsStorage) (v : Byte) (s : State) : r.byte (r.store v s) = v := by
  cases r
  case key i | din i | msg i => exact Vector.getElem_set_self i.isLt
  case gfIn => rfl
  all_goals exact absurd h id

/-- Storing a byte leaves the byte of every other register and view. -/
theorem Region.byte_store_of_ne {r q : Region} (h : q ≠ r) (v : Byte) (s : State) :
    q.byte (r.store v s) = q.byte s := by
  cases r
  case key i =>
    cases q
    case key j => exact Vector.getElem_set_ne i.isLt j.isLt fun hij => h (congrArg Region.key (Fin.ext hij.symm))
    all_goals rfl
  case din i =>
    cases q
    case din j => exact Vector.getElem_set_ne i.isLt j.isLt fun hij => h (congrArg Region.din (Fin.ext hij.symm))
    all_goals rfl
  case msg i =>
    cases q
    case msg j => exact Vector.getElem_set_ne i.isLt j.isLt fun hij => h (congrArg Region.msg (Fin.ext hij.symm))
    all_goals rfl
  case gfIn =>
    cases q
    case gfIn => exact absurd rfl h
    all_goals rfl
  all_goals rfl

/-- A read at another address gives the same byte after a byte is stored: the address holds another register, or the
region stores nothing. -/
theorem busRead_store_of_ne {a b : Addr} (hb : b ≠ a) (v : Byte) (s : State) :
    busRead ((region a).store v s) b = busRead s b := by
  by_cases hr : region a = .reserved
  · rw [hr, Region.store_of_not_isStorage id]
  · have hne : region b ≠ region a := fun h => hb (region_inj hr h.symm).symm
    rw [busRead_eq_byte, busRead_eq_byte, Region.byte_store_of_ne hne]

/-! ### The obligations on reads and writes -/

/-- No byte written to `CMD` changes the host's input registers (R65). -/
theorem runCommand_inputs_eq {v : Byte} {s t : State} (h : runCommand v s = .next t) :
    t.key = s.key ∧ t.din = s.din ∧ t.gfIn = s.gfIn ∧ t.msg = s.msg := by
  obtain ⟨i, -, heff⟩ | ⟨e, -, rfl⟩ := runCommand_next h
  · exact heff.inputs_eq
  · exact ⟨rfl, rfl, rfl, rfl⟩

/-- Settles O31: the write stores its byte in the register that stands at the address. -/
theorem storageReadsBack : Obligations.StorageReadsBack := by
  refine ⟨fun s a v ha => ?_, fun v s t h => runCommand_inputs_eq ((hostEvent_cmd v s).symm.trans h)⟩
  refine ⟨_, busWrite_eq_store (ne_cmd_of_inStorage ha) v s, ?_, fun b hb => busRead_store_of_ne hb v s, ?_⟩
  · rw [busRead_eq_byte, Region.byte_store_same (isStorage_region_iff.mpr ha)]
  · rw [Region.store_frame]
    exact ⟨rfl, rfl, rfl, rfl, rfl, rfl, rfl, rfl⟩

/-- Settles O32: the address holds no storage and is not that of `CMD`; a reserved one holds no register. -/
theorem ignoredWritesChangeNothing : Obligations.IgnoredWritesChangeNothing := by
  refine ⟨fun s a v ha => ?_, fun s a ha => busRead_of_spans (r := .reserved) ha s⟩
  obtain ⟨hcmd, hstorage⟩ := not_cmd_not_inStorage ha
  exact (busWrite_eq_store hcmd v s).trans
    (congrArg _ (Region.store_of_not_isStorage (mt isStorage_region_iff.mp hstorage) v s))

/-- Settles O36: a write elsewhere than to `CMD` stores a byte in the register at its address, or does nothing. -/
theorem onlyCommandWritesHaveEffects : Obligations.OnlyCommandWritesHaveEffects :=
  ⟨fun s a => ⟨busRead s a, rfl⟩, fun s _ v ha =>
    ⟨_, busWrite_eq_store ha v s, Region.store_frame _ v s, fun _ hb => busRead_store_of_ne hb v s⟩⟩

/-! ### The registers and views at their addresses -/

/-- An address below 0x400 as a number. -/
theorem toNat_addr {n : Nat} (h : n < 0x400) : (BitVec.ofNat 10 n).toNat = n := by
  rw [BitVec.toNat_ofNat, Nat.mod_eq_of_lt h]

/-- Settles O34: each register reads where it stands. -/
theorem registersReadAtTheirAddresses : Obligations.RegistersReadAtTheirAddresses := by
  refine ⟨fun s i => ⟨?_, ?_, ?_⟩, fun s i => ?_, fun s => ⟨?_, ?_, ?_, ?_⟩⟩
  · exact busRead_of_spans (r := .key i) (toNat_addr (by omega)) s
  · exact busRead_of_spans (r := .din i) (toNat_addr (by omega)) s
  · exact busRead_of_spans (r := .dout i) (toNat_addr (by omega)) s
  · exact busRead_of_spans (r := .msg i) (toNat_addr (by omega)) s
  · exact busRead_of_spans (r := .gfIn) (a := 0x030) rfl s
  · exact busRead_of_spans (r := .gfOut) (a := 0x031) rfl s
  · exact busRead_of_spans (r := .cmd) (a := 0x038) rfl s
  · exact busRead_status s

/-- Byte `4 * i + k` of a view is byte `k` of word `i` (R68, R69, R70). -/
theorem viewByte_word {n : Nat} (ws : Vector Word n) (i : Fin n) (k : Fin 4) :
    viewByte ws (4 * i.val + k.val) (by omega) = (unpackBe ws[i])[k] := by
  have hword : (4 * i.val + k.val) / 4 = i.val := by omega
  have hbyte : (4 * i.val + k.val) % 4 = k.val := by omega
  simp only [viewByte, hword, hbyte, Fin.getElem_fin]

/-- Byte `k` of a word is its bits [31-8k : 24-8k] (R68, R112). -/
theorem unpackBe_getElem (x : Word) (k : Fin 4) : (unpackBe x)[k] = x.extractLsb' (24 - 8 * k.val) 8 := by
  fin_cases k <;> rfl

/-- Settles O33: each view reads byte by byte where it stands. -/
theorem viewsAreBigEndian : Obligations.ViewsAreBigEndian := by
  refine ⟨fun s j k => ⟨?_, unpackBe_getElem s.h[j] k⟩, fun s i k => ?_, fun s t k => ?_⟩
  · exact (busRead_of_spans (r := .hview ⟨4 * j.val + k.val, by omega⟩)
      ((toNat_addr (by omega)).trans (Nat.add_assoc ..)) s).trans (viewByte_word s.h j k)
  · exact (busRead_of_spans (r := .rkview ⟨4 * i.val + k.val, by omega⟩)
      ((toNat_addr (by omega)).trans (Nat.add_assoc ..)) s).trans (viewByte_word s.rk i k)
  · exact (busRead_of_spans (r := .wview ⟨4 * t.val + k.val, by omega⟩)
      ((toNat_addr (by omega)).trans (Nat.add_assoc ..)) s).trans (viewByte_word s.w t k)

end Sys2Proof.Machine
end

section
/-! PROOFS of the family 30_encoding: which words decode, what the others do, and the load scripts of the host. -/

namespace Sys2Proof.Machine

/-! ### Valid command words -/

/-- The table of R94 pairs each command's byte with the command, and lists every command. -/
theorem mem_validWords_iff {v : Byte} {i : Instr} : (v, i) ∈ validWords ↔ encode i = v := by
  constructor
  · have hrow : ∀ p ∈ validWords, encode p.2 = p.1 := by decide
    exact hrow (v, i)
  · rintro rfl
    cases i <;> decide

/-- Settles O1: a word that decodes is its command's byte, which the table lists. -/
theorem commandWordsDecode : Obligations.CommandWordsDecode := by
  refine ⟨fun ⟨v, i⟩ hp => ?_, fun v hv => ?_⟩
  · rw [← mem_validWords_iff.mp hp]
    exact decode_encode i
  · cases hd : decode v with
    | ok i => exact absurd (List.mem_map_of_mem (mem_validWords_iff.mpr (encode_of_decode hd))) hv
    | error e => exact ⟨e, rfl⟩

/-- Settles O2: each command's byte decodes to it, and only that byte does. -/
theorem decodeUndoesEncode : Obligations.DecodeUndoesEncode :=
  ⟨decode_encode, fun _ _ => encode_of_decode⟩

/-! ### Invalid command words -/

/-- The high and the low four bits of a command byte are its fields (R90). -/
theorem ofByte_append (opc fn : BitVec 4) : CommandWord.ofByte (opc ++ fn) = ⟨opc, fn⟩ := by
  revert opc fn
  decide +kernel

/-- The operation codes from 0x9 on are reserved (R93). -/
theorem opcDefined_of_nine_le {c : CommandWord} (h : 0x9#4 ≤ c.opc) : c.opcDefined = false := by
  obtain ⟨opc, fn⟩ := c
  revert opc fn
  decide

/-- GFMUL with a constant outside the seven is GF_CONST (R95, R139). -/
theorem decodeFields_gfConst {c : CommandWord} (hopc : c.opc = 0x1#4) (hfn : c.fnLegal = false) :
    decodeFields c = .error .gfConst := by
  simp [CommandWord.fnLegal, CommandWord.gfConstants, hopc] at hfn
  simp [decodeFields, decodeGfmul, hopc, hfn]

/-- An operation code the map does not assign is ILLEGAL_CMD (R93, R95). -/
theorem decodeFields_reserved {c : CommandWord} (hopc : c.opcDefined = false) :
    decodeFields c = .error .illegalCmd := by
  simp [CommandWord.opcDefined] at hopc
  simp [decodeFields, hopc]

/-- A nonzero FN with an operation code other than GFMUL's is ILLEGAL_CMD (R95). -/
theorem decodeFields_fn {c : CommandWord} (hopc : c.opc ≠ 0x1#4) (hfn : c.fn ≠ 0x0#4) :
    decodeFields c = .error .illegalCmd := by
  simp [decodeFields, decodePlain, hopc, hfn]

/-- A word whose fields do not decode writes the error's code into `ERR` and does nothing else (R96, R271). -/
theorem writeCmd_error {opc fn : BitVec 4} {e : CmdError} (h : decodeFields ⟨opc, fn⟩ = .error e) (s : State) :
    writeCmd (opc ++ fn) s = .next (s.setErr (errCode e)) := by
  have hd : decode (opc ++ fn) = .error e := by
    rw [decode, ofByte_append, h]
  exact (hostEvent_cmd _ s).trans (runCommand_error hd s)

/-- The counts of R96: 14 words decode, and the four patterns have 16, 9, 105 and 112. -/
theorem invalidWord_counts :
    (List.range 256).countP (fun v => (decode (BitVec.ofNat 8 v)).isOk) = 14 ∧
      (List.range 256).countP (fun v => decide (v / 16 = 0)) = 16 ∧
      (List.range 256).countP (fun v => decide (decode (BitVec.ofNat 8 v) = .error .gfConst)) = 9 ∧
      (List.range 256).countP (fun v => decide (2 ≤ v / 16 ∧ v / 16 ≤ 8 ∧ v % 16 ≠ 0)) = 105 ∧
      (List.range 256).countP (fun v => decide (9 ≤ v / 16)) = 112 := by
  decide +kernel

/-- Settles O3: the fields of each pattern decode to the pattern's error. -/
theorem invalidWordsRaiseErrorsOnly : Obligations.InvalidWordsRaiseErrorsOnly := by
  refine ⟨fun s opc fn hopc => ?_, fun s opc fn hopc hfn => ?_, fun s opc fn hlow _ hfn => ?_, fun s opc fn hopc => ?_,
    invalidWord_counts⟩
  · subst hopc
    exact writeCmd_error (decodeFields_reserved (c := ⟨0x0, fn⟩) rfl) s
  · have hillegal : CommandWord.fnLegal ⟨0x1, fn⟩ = false := by
      revert fn
      decide
    subst hopc
    exact writeCmd_error (decodeFields_gfConst rfl hillegal) s
  · have hgf : opc ≠ 0x1#4 := by
      rintro rfl
      exact absurd hlow (by decide)
    exact writeCmd_error (decodeFields_fn hgf hfn) s
  · exact writeCmd_error (decodeFields_reserved (opcDefined_of_nine_le hopc)) s

/-! ### The load scripts -/

/-- `load x es r` is a state that holds the bytes `x`, the pending events `es` and the read byte `r`, and from it a
write to address `base + i` stores its byte at `x[i]` and does no more (R65). -/
def StoresAt {n : Nat} (base : Nat) (load : Vector Byte n → List HostEvent → Option Byte → State) : Prop :=
  ∀ (i : Fin n) (a : Addr) (v : Byte) (x : Vector Byte n) (es : List HostEvent) (r : Option Byte),
    a.toNat = base + i.val → step (load x (.write a v :: es) r) = .next (load (x.set i v) es none)

/-- A step on a write where a register stands stores the byte there. -/
theorem step_write {q : Region} {a : Addr} {v : Byte} {s : State} {es : List HostEvent} (hq : q.Spans a)
    (ha : a ≠ 0x038) (hp : s.pending = .write a v :: es) :
    step s = .next (q.store v ((s.setPending es).setRdata none)) := by
  rw [step_event hp, hostEvent, busWrite_eq_store ha, region_eq_iff.mpr hq]

/-- `m` writes that go on where byte `i` stands complete the bytes, when those before byte `i` stand already. -/
theorem run_writeBytes_drop {n base : Nat} {load : Vector Byte n → List HostEvent → Option Byte → State}
    (hload : StoresAt base load) (hfit : base + n < 0x400) (k : Vector Byte n) (es : List HostEvent) (m i : Nat)
    (a : Addr) (x : Vector Byte n) (r : Option Byte) (hm : i + m = n) (ha : a.toNat = base + i)
    (hx : ∀ (j : Nat) (hj : j < i), x[j] = k[j]) (hr : m = 0 → r = none) :
    Sys2Proof.core.run m (load x (writeBytes a (k.toList.drop i) ++ es) r) = .next (load k es none) := by
  induction m generalizing i a x r with
  | zero =>
    obtain rfl : i = n := hm
    obtain rfl : x = k := Vector.ext hx
    rw [hr rfl, List.drop_of_length_le (by simp)]
    rfl
  | succ m ih =>
    have hi : i < n := by omega
    have hnext : (a + 1).toNat = base + (i + 1) := by bv_omega
    have hset : ∀ (j : Nat) (hj : j < i + 1), (x.set i k[i])[j] = k[j] := by
      intro j hj
      rcases Nat.lt_succ_iff_lt_or_eq.mp hj with hlt | rfl
      · rw [Vector.getElem_set_ne hi (by omega) (by omega), hx j hlt]
      · exact Vector.getElem_set_self hi
    rw [List.drop_eq_getElem_cons (by simpa using hi), writeBytes, List.cons_append, Vector.getElem_toList]
    exact (run_succ m (hload ⟨i, hi⟩ a _ x _ r ha)).trans (ih (i + 1) (a + 1) _ none (by omega) hnext hset fun _ => rfl)

/-- Writing `n` bytes from the base address on leaves them in the register that stands there. -/
theorem run_writeBytes {n : Nat} {base : Addr} {load : Vector Byte n → List HostEvent → Option Byte → State}
    (hload : StoresAt base.toNat load) (hfit : base.toNat + n < 0x400) (hn : n ≠ 0) (k x : Vector Byte n)
    (es : List HostEvent) (r : Option Byte) :
    Sys2Proof.core.run n (load x (writeBytes base k.toList ++ es) r) = .next (load k es none) :=
  run_writeBytes_drop hload hfit k es n 0 base x r (Nat.zero_add n) rfl (fun _ hj => absurd hj (Nat.not_lt_zero _))
    fun h => absurd h hn

/-- `KEY` stands at 0x000 (R64). -/
theorem storesAt_key (s : State) : StoresAt 0x000 fun k es r => { s with key := k, pending := es, rdata := r } :=
  fun i _ _ _ _ _ ha => step_write (q := .key i) (ha.trans (Nat.zero_add _)) (by bv_omega) rfl

/-- `DIN` stands at 0x010 (R64). -/
theorem storesAt_din (s : State) : StoresAt 0x010 fun d es r => { s with din := d, pending := es, rdata := r } :=
  fun i _ _ _ _ _ ha => step_write (q := .din i) ha (by bv_omega) rfl

/-- `MSG` stands at 0x040 (R64). -/
theorem storesAt_msg (s : State) : StoresAt 0x040 fun m es r => { s with msg := m, pending := es, rdata := r } :=
  fun i _ _ _ _ _ ha => step_write (q := .msg i) ha (by bv_omega) rfl

/-- Settles O49: KEY, DIN and MSG each store a byte written where its element stands. -/
theorem loadScriptsFillTheirRegister : Obligations.LoadScriptsFillTheirRegister :=
  ⟨fun s k es => run_writeBytes (base := 0x000) (storesAt_key s) (by decide) (by decide) k s.key es s.rdata,
    fun s d es => run_writeBytes (base := 0x010) (storesAt_din s) (by decide) (by decide) d s.din es s.rdata,
    fun s m es => run_writeBytes (base := 0x040) (storesAt_msg s) (by decide) (by decide) m s.msg es s.rdata⟩

end Sys2Proof.Machine
end

section
/-! PROOFS of the family 40_packer: the packer and the unpacker, and the AES state load and store. -/

namespace Sys2Proof.Machine

/-! ### The packer and the unpacker -/

/-- The packer's shifts and ors put the four bytes side by side (R110). -/
theorem packBe_eq_append (b0 b1 b2 b3 : Byte) : packBe b0 b1 b2 b3 = b0 ++ b1 ++ b2 ++ b3 :=
  calc packBe b0 b1 b2 b3
    _ = (b0 ++ b1 ++ b2 ++ b3).setWidth 32 := by
      simp only [packBe, BitVec.setWidth_append_eq_shiftLeft_setWidth_or, BitVec.shiftLeft_or_distrib,
        ← BitVec.shiftLeft_add]
    _ = b0 ++ b1 ++ b2 ++ b3 := BitVec.setWidth_eq _

/-- A packed word unpacks to its bytes: each is the slice of the concatenation where it was put (R110, R112). -/
theorem unpackBe_packBe (b0 b1 b2 b3 : Byte) : unpackBe (packBe b0 b1 b2 b3) = #v[b0, b1, b2, b3] :=
  calc unpackBe (packBe b0 b1 b2 b3)
    _ = #v[(b0 ++ b1 ++ b2 ++ b3).extractLsb' 24 8, (b0 ++ b1 ++ b2 ++ b3).extractLsb' 16 8,
          (b0 ++ b1 ++ b2 ++ b3).extractLsb' 8 8, (b0 ++ b1 ++ b2 ++ b3).extractLsb' 0 8] :=
      congrArg unpackBe (packBe_eq_append b0 b1 b2 b3)
    _ = #v[b0, b1, b2, b3] := by
      simp (disch := decide) only [BitVec.extractLsb'_append_eq_of_le, BitVec.extractLsb'_append_eq_right,
        BitVec.extractLsb'_eq_self, Nat.reduceSub, -Nat.reduceAdd]

/-- The unpacked bytes pack to the word: adjacent slices join to one slice, the whole word (R110, R112). -/
theorem packBe_unpackBe (w : Word) :
    packBe (unpackBe w)[0] (unpackBe w)[1] (unpackBe w)[2] (unpackBe w)[3] = w :=
  calc packBe (unpackBe w)[0] (unpackBe w)[1] (unpackBe w)[2] (unpackBe w)[3]
    _ = w.extractLsb' 24 8 ++ w.extractLsb' 16 8 ++ w.extractLsb' 8 8 ++ w.extractLsb' 0 8 := packBe_eq_append ..
    _ = w.extractLsb' 0 32 := by
      rw [BitVec.extractLsb'_append_extractLsb'_eq_extractLsb' (show 24 = 16 + 8 from rfl),
        BitVec.extractLsb'_append_extractLsb'_eq_extractLsb' (show 16 = 8 + 8 from rfl),
        BitVec.extractLsb'_append_extractLsb'_eq_extractLsb' (show 8 = 0 + 8 from rfl)]
    _ = w := BitVec.extractLsb'_eq_self

/-- Settles O19: the unpacker's bytes by definition, and the packer as concatenation for both laws. -/
theorem packerAndUnpackerAreInverse : Obligations.PackerAndUnpackerAreInverse :=
  ⟨fun _ => rfl, unpackBe_packBe, packBe_unpackBe, by decide⟩

/-! ### The AES state load and store -/

/-- Byte `i` of the block is loaded into row `i mod 4`, column `i div 4` (R115). -/
theorem loadState_byte (x : Vector Byte 16) (i : Nat) (hi : i < 16) : (loadState x)[i % 4][i / 4] = x[i] := by
  have hindex : 4 * (i / 4) + i % 4 = i := by omega
  simp only [loadState, AesState.ofFn_entry_nat, hindex]

/-- Storing a loaded block gives the block (R115, R116). -/
theorem storeState_loadState (x : Vector Byte 16) : storeState (loadState x) = x := by
  apply Vector.ext
  intro i hi
  rw [storeState_byte, loadState_byte x i hi]

/-- Loading a stored state gives the state (R115, R116). -/
theorem loadState_storeState (s : AesState) : loadState (storeState s) = s := by
  refine AesState.ext_entry fun r c => ?_
  have hrow : (4 * c.val + r.val) % 4 = r.val := by omega
  have hcol : (4 * c.val + r.val) / 4 = c.val := by omega
  rw [loadState_entry, storeState_byte]
  simp only [hrow, hcol, Fin.getElem_fin]

/-- Settles O20: the load byte by byte, and each law by comparing entries. -/
theorem storeUndoesLoad : Obligations.StoreUndoesLoad :=
  ⟨fun x i => loadState_byte x i i.isLt, storeState_loadState, loadState_storeState⟩

end Sys2Proof.Machine
end

section
/-! PROOFS of the family 41_gf_multiplier: `mul` as the product in GF(2^8), and the GFMUL command words. -/

namespace Sys2Proof.Machine

/-! ### The product in GF(2^8) is additive in its first factor -/

/-- When each step of `f` on a sum is the sum of the steps of `g` and `k`, so is the whole fold. -/
theorem foldl_xor {n : Nat} {α : Type} {f g k : BitVec n → α → BitVec n}
    (hstep : ∀ p q i, f (p ^^^ q) i = g p i ^^^ k q i) (l : List α) (p q : BitVec n) :
    l.foldl f (p ^^^ q) = l.foldl g p ^^^ l.foldl k q := by
  induction l generalizing p q with
  | nil => rfl
  | cons i l ih => rw [List.foldl_cons, hstep, ih, List.foldl_cons, List.foldl_cons]

/-- A term added when a bit is set is added once when the bit is set in one of two summands only. -/
theorem ite_bne_xor {n : Nat} (a b : Bool) (p q m : BitVec n) :
    (if (a ^^ b) = true then p ^^^ q ^^^ m else p ^^^ q) =
      (if a = true then p ^^^ m else p) ^^^ (if b = true then q ^^^ m else q) := by
  cases a <;> cases b
  · rfl
  · exact BitVec.xor_assoc p q m
  · show p ^^^ q ^^^ m = p ^^^ m ^^^ q
    ac_rfl
  · calc p ^^^ q
      _ = p ^^^ q ^^^ (m ^^^ m) := by rw [BitVec.xor_self, BitVec.xor_zero]
      _ = p ^^^ m ^^^ (q ^^^ m) := by ac_rfl

theorem polyProduct_xor (c d b : Byte) : polyProduct (c ^^^ d) b = polyProduct c b ^^^ polyProduct d b := by
  refine foldl_xor (fun p q i => ?_) (List.range 8) 0 0
  rw [BitVec.getLsbD_xor]
  exact ite_bne_xor ..

theorem polyReduce_xor (p q : BitVec 16) : polyReduce (p ^^^ q) = polyReduce p ^^^ polyReduce q := by
  rw [polyReduce, polyReduce, polyReduce, ← BitVec.setWidth_xor]
  refine congrArg _ (foldl_xor (fun p q i => ?_) _ p q)
  rw [BitVec.getLsbD_xor]
  exact ite_bne_xor ..

theorem gfProduct_xor (c d b : Byte) : gfProduct (c ^^^ d) b = gfProduct c b ^^^ gfProduct d b := by
  rw [gfProduct, polyProduct_xor, polyReduce_xor]
  rfl

/-- The products by the powers of `x` are the iterates of `xtime` (R130). -/
theorem gfProduct_powers (b : Byte) :
    gfProduct 0x01 b = b ∧ gfProduct 0x02 b = xtime b ∧ gfProduct 0x04 b = xtime (xtime b) ∧
      gfProduct 0x08 b = xtime (xtime (xtime b)) := by
  revert b
  decide +kernel

/-! ### The laws of `mul` (R140) -/

/-- Each chain of R131 adds up the products by the powers of `x` that make up its constant. -/
theorem mul_eq_gfProduct (c : GfConst) (b : Byte) : mul c b = gfProduct c.toByte b := by
  obtain ⟨h1, h2, h4, h8⟩ := gfProduct_powers b
  cases c with
  | c01 => exact h1.symm
  | c02 => exact h2.symm
  | c03 => rw [show GfConst.c03.toByte = 0x02 ^^^ 0x01 from rfl, gfProduct_xor, h2, h1, mul]
  | c09 => rw [show GfConst.c09.toByte = 0x08 ^^^ 0x01 from rfl, gfProduct_xor, h8, h1, mul]
  | c0B => rw [show GfConst.c0B.toByte = 0x08 ^^^ 0x02 ^^^ 0x01 from rfl, gfProduct_xor, gfProduct_xor, h8, h2, h1, mul]
  | c0D => rw [show GfConst.c0D.toByte = 0x08 ^^^ 0x04 ^^^ 0x01 from rfl, gfProduct_xor, gfProduct_xor, h8, h4, h1, mul]
  | c0E => rw [show GfConst.c0E.toByte = 0x08 ^^^ 0x04 ^^^ 0x02 from rfl, gfProduct_xor, gfProduct_xor, h8, h4, h2, mul]

theorem xtime_eq_ite (b : Byte) : xtime b = if b.getLsbD 7 = true then b <<< 1 ^^^ 0x1b else b <<< 1 := by
  unfold xtime
  cases b.getLsbD 7
  · exact BitVec.xor_zero
  · rfl

/-- Doubling is additive: the shift is, and 0x1b is added when one high bit is set, not both (R130). -/
theorem xtime_xor (a b : Byte) : xtime (a ^^^ b) = xtime a ^^^ xtime b := by
  simp only [xtime_eq_ite, BitVec.shiftLeft_xor_distrib, BitVec.getLsbD_xor]
  exact ite_bne_xor ..

theorem mul_xor (c : GfConst) (a b : Byte) : mul c (a ^^^ b) = mul c a ^^^ mul c b := by
  cases c <;> simp only [mul, xtime_xor] <;> ac_rfl

/-- Settles O9: the chain of each constant as the product, and additivity by that of doubling. -/
theorem mulIsTheFieldProduct : Obligations.MulIsTheFieldProduct := by
  refine fun c => ⟨mul_eq_gfProduct c, mul_xor c, ?_, ?_, fun b => rfl⟩
  · cases c <;> rfl
  · cases c <;> rfl

/-! ### The GFMUL command words -/

/-- The byte of `GFMUL c` is its command's (R94, R98). -/
theorem encode_gfInstr (c : GfConst) : encode (gfInstr c) = gfmulByte c := by
  cases c <;> rfl

/-- Writing `0x10 + c` to `CMD` runs GFMUL at `c` (R98, R132 to R138). -/
theorem writeCmd_gfmulByte (c : GfConst) (s : State) :
    writeCmd (gfmulByte c) s = .next ((s.setGfOut (mul c s.gfIn)).setErr 0) := by
  rw [← encode_gfInstr]
  exact ((hostEvent_cmd _ s).trans (runCommand_ok (decode_encode _) s)).trans (exec_gfInstr c s)

/-- Settles O10: the result is a function of `GF_IN`, which the command leaves. -/
theorem gfmulMultipliesInTheField : Obligations.GfmulMultipliesInTheField := by
  refine fun c s => ⟨_, writeCmd_gfmulByte c s, ?_, writeCmd_gfmulByte c _⟩
  rw [mul_eq_gfProduct]
  rfl

theorem decode_gfConstWords : ∀ v ∈ gfConstWords, decode v = .error .gfConst := by
  decide

/-- Settles O4: none of the nine words decodes. -/
theorem unsupportedConstantFailsFast : Obligations.UnsupportedConstantFailsFast :=
  fun v hv s => (hostEvent_cmd v s).trans (runCommand_error (decode_gfConstWords v hv) s)

/-- A value of `mul` is what the command leaves in `GF_OUT` of every state with that `GF_IN`. -/
theorem gfOut_writeCmd_gfmulByte {c : GfConst} {b r : Byte} (h : mul c b = r) (s : State) (hs : s.gfIn = b) :
    ∃ t, writeCmd (gfmulByte c) s = .next t ∧ t.gfOut = r :=
  ⟨_, writeCmd_gfmulByte c s, by rw [State.setErr_gfOut, State.setGfOut_gfOut, hs, h]⟩

/-- Settles O8: the effect of each command is that of GFMUL at its constant; the values are those of `mul`. -/
theorem gfmulResults : Obligations.GfmulResults := by
  refine ⟨by decide, fun s => ?_, fun q hq => gfOut_writeCmd_gfmulByte ?_⟩
  · exact ⟨exec_gfInstr .c01 s, exec_gfInstr .c02 s, exec_gfInstr .c03 s, exec_gfInstr .c09 s, exec_gfInstr .c0B s,
      exec_gfInstr .c0D s, exec_gfInstr .c0E s⟩
  · revert q
    decide

end Sys2Proof.Machine
end

section
/-! PROOFS of the family 42_key_schedule: the word steps, the key schedule, and the commands that may be repeated. -/

namespace Sys2Proof.Machine

/-! ### The word steps -/

/-- Rotating a bit string left by the length of its first part moves that part behind the rest. -/
theorem rotateLeft_append {v w : Nat} (x : BitVec v) (y : BitVec w) (hw : 0 < w) :
    (x ++ y).rotateLeft v = (y ++ x).cast (Nat.add_comm w v) := by
  refine BitVec.eq_of_getLsbD_eq fun i hi => ?_
  have hr : v < v + w := by omega
  simp only [BitVec.getLsbD_rotateLeft_of_le hr, BitVec.getLsbD_cast, BitVec.getLsbD_append]
  by_cases h : i < v
  · simp [h]
  · have hw' : i - v < w := by omega
    simp [h, hi, hw']

/-- RotWord moves the first byte of a word behind the other three (R150). -/
theorem rotWord_packBe (b0 b1 b2 b3 : Byte) : rotWord (packBe b0 b1 b2 b3) = packBe b1 b2 b3 b0 :=
  calc rotWord (packBe b0 b1 b2 b3)
    _ = (b0 ++ b1 ++ b2 ++ b3).rotateLeft 8 := congrArg rotWord (packBe_eq_append ..)
    _ = (b0 ++ (b1 ++ b2 ++ b3)).rotateLeft 8 := by simp only [BitVec.append_assoc, BitVec.cast_eq]
    _ = b1 ++ b2 ++ b3 ++ b0 := rotateLeft_append b0 (b1 ++ b2 ++ b3) (by decide)
    _ = packBe b1 b2 b3 b0 := (packBe_eq_append ..).symm

/-- SubWord unpacks the word, substitutes each byte and packs again (R151). -/
theorem subWord_packBe (b0 b1 b2 b3 : Byte) :
    subWord (packBe b0 b1 b2 b3) = packBe (sbox b0) (sbox b1) (sbox b2) (sbox b3) := by
  simp only [subWord, unpackBe_packBe, Vector.getElem_mk, List.getElem_toArray, List.getElem_cons_zero,
    List.getElem_cons_succ]

/-- Settles O12: both word steps on a packed word; the two examples are computed. -/
theorem wordStepsMoveBytes : Obligations.WordStepsMoveBytes :=
  ⟨rotWord_packBe, subWord_packBe, by decide, by decide⟩

/-! ### The key schedule -/

/-- Settles O11: the schedule is `expand` of the key, whose first words and recurrence are laws of its loop. -/
theorem keyexpWritesTheSchedule : Obligations.KeyexpWritesTheSchedule :=
  fun s => ⟨expand s.key, exec_keyexp s, expand_head s.key, expand_word s.key⟩

/-- Settles O13: `RK` is `expand` of `KEY`, and `DOUT` a pipeline's result on that schedule and `DIN`. -/
theorem scheduleIsDerivedAfresh : Obligations.ScheduleIsDerivedAfresh := by
  intro s s' hkey hdin i hi
  have hrk : expand s.key = expand s'.key := congrArg expand hkey
  obtain rfl | rfl | rfl := hi
  · exact ⟨_, _, exec_keyexp s, exec_keyexp s', hrk, absurd rfl⟩
  · exact ⟨_, _, exec_aesEnc s, exec_aesEnc s', hrk, fun _ => by simp [hkey, hdin]⟩
  · exact ⟨_, _, exec_aesDec s, exec_aesDec s', hrk, fun _ => by simp [hkey, hdin]⟩

/-! ### Repeated commands -/

/-- Every command but SHA_COMP and SHA_BLOCK has the same effect again: it writes no register that it reads. -/
theorem ExecEffect.again {s t : State} {i : Instr} (h : ExecEffect s i t) (hcomp : i ≠ .shaComp)
    (hblock : i ≠ .shaBlock) : ExecEffect t i t := by
  cases h with
  | gfmul c => exact .gfmul c
  | keyexp => exact .keyexp
  | aesEnc => exact .aesEnc
  | aesDec => exact .aesDec
  | shaInit =>
    -- Field by field, since comparing the two states as a whole would unroll the literal `iv`.
    refine exec_eq_next_iff.mp ((exec_shaInit _).trans (congrArg _ ?_))
    apply State.ext <;> simp
  | shaSched => exact .shaSched
  | shaComp | compNoHash | compNoSchedule => exact absurd rfl hcomp
  | shaBlock | blockNoHash => exact absurd rfl hblock

/-- Settles O44: a command answers a state of its effect, and from there has that effect again. -/
theorem repeatedCommandChangesNothing : Obligations.RepeatedCommandChangesNothing := by
  intro i s hcomp hblock
  obtain ⟨t, h⟩ := exists_execEffect i s
  exact ⟨t, h.exec_eq, (h.again hcomp hblock).exec_eq⟩

end Sys2Proof.Machine
end

section
/-! PROOFS of the family 43_aes_encrypt: the round steps and their inverses, Cipher round by round, and AES_ENC as the
inverse of AES_DEC. -/

namespace Sys2Proof.Machine

/-! ### A column matrix on one column -/

/-- Entry `r` of the product of a matrix over GF(2^8) and the column `a` (R173). -/
def mulColumn (m : Vector (Vector GfConst 4) 4) (a : Fin 4 → Byte) (r : Fin 4) : Byte :=
  mul m[r][0] (a 0) ^^^ mul m[r][1] (a 1) ^^^ mul m[r][2] (a 2) ^^^ mul m[r][3] (a 3)

theorem mulColumns_entry_eq_mulColumn (m : Vector (Vector GfConst 4) 4) (s : AesState) (r c : Fin 4) :
    (mulColumns m s)[r][c] = mulColumn m (fun k => s[k][c]) r :=
  mulColumns_entry m s r c

theorem mulColumn_xor (m : Vector (Vector GfConst 4) 4) (a b : Fin 4 → Byte) (r : Fin 4) :
    mulColumn m (fun k => a k ^^^ b k) r = mulColumn m a r ^^^ mulColumn m b r := by
  simp only [mulColumn, mul_xor]
  ac_rfl

/-- The product of the matrices `m` and `m'` over GF(2^8) is the identity: `m` takes the multiple of column `j` of `m'`
by `b` to the column with `b` in row `j` and zeros elsewhere. -/
def UndoesMatrix (m m' : Vector (Vector GfConst 4) 4) : Prop :=
  ∀ (j r : Fin 4) (b : Byte), mulColumn m (fun k => mul m'[k][j] b) r = if r = j then b else 0

theorem mixMatrix_undoes_invMixMatrix : UndoesMatrix mixMatrix invMixMatrix := by
  unfold UndoesMatrix
  decide +kernel

/-- The column `m' a` is the sum of the columns of `m'`, each times its entry of `a`, and `m` is additive. -/
theorem mulColumn_mulColumn {m m' : Vector (Vector GfConst 4) 4} (h : UndoesMatrix m m') (a : Fin 4 → Byte)
    (r : Fin 4) : mulColumn m (mulColumn m' a) r = a r :=
  calc mulColumn m (mulColumn m' a) r
    _ = mulColumn m (fun k => mul m'[k][(0 : Fin 4)] (a 0)) r ^^^ mulColumn m (fun k => mul m'[k][(1 : Fin 4)] (a 1)) r ^^^
          mulColumn m (fun k => mul m'[k][(2 : Fin 4)] (a 2)) r ^^^
            mulColumn m (fun k => mul m'[k][(3 : Fin 4)] (a 3)) r := by
      simp only [← mulColumn_xor]
      rfl
    _ = (if r = 0 then a 0 else 0) ^^^ (if r = 1 then a 1 else 0) ^^^ (if r = 2 then a 2 else 0) ^^^
          (if r = 3 then a 3 else 0) := by rw [h, h, h, h]
    _ = a r := by fin_cases r <;> simp

/-- MixColumns undoes InvMixColumns on a column (R173, R192). -/
theorem mulColumn_mixMatrix_leftInverse : Function.LeftInverse (mulColumn mixMatrix) (mulColumn invMixMatrix) :=
  fun a => funext (mulColumn_mulColumn mixMatrix_undoes_invMixMatrix a)

/-- The other order holds too, as there are finitely many columns. -/
theorem mulColumn_invMixMatrix_leftInverse : Function.LeftInverse (mulColumn invMixMatrix) (mulColumn mixMatrix) :=
  mulColumn_mixMatrix_leftInverse.rightInverse_of_surjective
    (Finite.surjective_of_injective mulColumn_mixMatrix_leftInverse.injective)

theorem mulColumns_mulColumns {m m' : Vector (Vector GfConst 4) 4}
    (h : Function.LeftInverse (mulColumn m) (mulColumn m')) (s : AesState) : mulColumns m (mulColumns m' s) = s := by
  refine AesState.ext_entry fun r c => ?_
  simp only [mulColumns_entry_eq_mulColumn]
  exact congrFun (h fun k => s[k][c]) r

/-! ### The round steps and their inverses -/

theorem invShiftRows_shiftRows (s : AesState) : invShiftRows (shiftRows s) = s :=
  AesState.ext_entry fun r c => by simp only [invShiftRows_entry, shiftRows_entry, sub_add_cancel]

theorem shiftRows_invShiftRows (s : AesState) : shiftRows (invShiftRows s) = s :=
  AesState.ext_entry fun r c => by simp only [shiftRows_entry, invShiftRows_entry, add_sub_cancel_right]

theorem invSubBytes_subBytes (s : AesState) : invSubBytes (subBytes s) = s :=
  AesState.ext_entry fun r c => by rw [invSubBytes_entry, subBytes_entry, invSbox_sbox]

theorem subBytes_invSubBytes (s : AesState) : subBytes (invSubBytes s) = s :=
  AesState.ext_entry fun r c => by rw [subBytes_entry, invSubBytes_entry, sbox_invSbox]

theorem invMixColumns_mixColumns (s : AesState) : invMixColumns (mixColumns s) = s :=
  mulColumns_mulColumns mulColumn_invMixMatrix_leftInverse s

theorem mixColumns_invMixColumns (s : AesState) : mixColumns (invMixColumns s) = s :=
  mulColumns_mulColumns mulColumn_mixMatrix_leftInverse s

theorem addRoundKey_addRoundKey (rk : Vector Word 44) (n : Fin 11) (s : AesState) :
    addRoundKey rk n (addRoundKey rk n s) = s :=
  AesState.ext_entry fun r c => by
    rw [addRoundKey_entry, addRoundKey_entry, BitVec.xor_assoc, BitVec.xor_self, BitVec.xor_zero]

theorem subBytes_shiftRows (s : AesState) : subBytes (shiftRows s) = shiftRows (subBytes s) :=
  AesState.ext_entry fun r c => by rw [subBytes_entry, shiftRows_entry, shiftRows_entry, subBytes_entry]

/-- Settles O18: the laws of the steps, each by comparing entries; the matrices' product is the identity. -/
theorem inverseStepsUndoSteps : Obligations.InverseStepsUndoSteps := fun s =>
  ⟨invShiftRows_shiftRows s, shiftRows_invShiftRows s, invSubBytes_subBytes s, subBytes_invSubBytes s,
    invMixColumns_mixColumns s, mixColumns_invMixColumns s, fun rk r => addRoundKey_addRoundKey rk r s,
    subBytes_shiftRows s⟩

/-! ### Cipher and InvCipher, round by round -/

/-- The AES state of `Cipher` after round `n` (R175). -/
def cipherState (rk : Vector Word 44) (x : AesState) (n : Fin 11) : AesState :=
  Fin.induction (motive := fun _ => AesState) (addRoundKey rk 0 x) (fun n t => encRound rk t n.succ) n

theorem cipherState_zero (rk : Vector Word 44) (x : AesState) : cipherState rk x 0 = addRoundKey rk 0 x := rfl

theorem cipherState_succ (rk : Vector Word 44) (x : AesState) (n : Fin 10) :
    cipherState rk x n.succ = encRound rk (cipherState rk x n.castSucc) n.succ := rfl

theorem cipher_eq_cipherState (rk : Vector Word 44) (x : AesState) : cipher rk x = cipherState rk x 10 := by
  unfold cipher
  rfl

/-- The AES state of `InvCipher` after round `n`, counting down from 10 (R195). -/
def invCipherState (rk : Vector Word 44) (x : AesState) (n : Fin 11) : AesState :=
  Fin.reverseInduction (motive := fun _ => AesState) (addRoundKey rk 10 x) (fun n t => decRound rk t n.castSucc) n

theorem invCipherState_last (rk : Vector Word 44) (x : AesState) : invCipherState rk x 10 = addRoundKey rk 10 x :=
  Fin.reverseInduction_last ..

theorem invCipherState_castSucc (rk : Vector Word 44) (x : AesState) (n : Fin 10) :
    invCipherState rk x n.castSucc = decRound rk (invCipherState rk x n.succ) n.castSucc :=
  Fin.reverseInduction_castSucc ..

theorem invCipher_eq_invCipherState (rk : Vector Word 44) (x : AesState) : invCipher rk x = invCipherState rk x 0 := by
  unfold invCipher
  rfl

/-! ### AES_ENC runs Cipher -/

/-- MixColumns written with the product in GF(2^8) is the core's matrix on one column (R173, R174). -/
theorem mixColumn_entry (a : Fin 4 → Byte) (r : Fin 4) : (mixColumn a)[r] = mulColumn mixMatrix a r := by
  have h2 (b : Byte) : gfProduct 0x02 b = mul .c02 b := (mul_eq_gfProduct .c02 b).symm
  have h3 (b : Byte) : gfProduct 0x03 b = mul .c03 b := (mul_eq_gfProduct .c03 b).symm
  simp only [mixColumn, h2, h3]
  fin_cases r <;> rfl

/-- An entry of the state MixColumns answers, from the column it replaces (R174). -/
theorem mixColumns_entry (s : AesState) (r c : Fin 4) : (mixColumns s)[r][c] = (mixColumn fun k => s[k][c])[r] :=
  (mulColumns_entry_eq_mulColumn mixMatrix s r c).trans (mixColumn_entry _ r).symm

theorem encRound_of_lt {n : Fin 11} (h : n.val < 10) (rk : Vector Word 44) (s : AesState) :
    encRound rk s n = addRoundKey rk n (mixColumns (shiftRows (subBytes s))) :=
  congrArg (addRoundKey rk n) (if_pos h)

theorem encRound_last (rk : Vector Word 44) (s : AesState) :
    encRound rk s 10 = addRoundKey rk 10 (shiftRows (subBytes s)) := rfl

/-- A round of `Cipher`, entry by entry, from the column after SubBytes and ShiftRows (R175, R177). -/
theorem encRound_entry (rk : Vector Word 44) (s : AesState) (n : Fin 11) (r c : Fin 4) :
    (encRound rk s n)[r][c] =
      (if n.val < 10 then (mixColumn fun k => sbox s[k][c + k])[r] else sbox s[r][c + r]) ^^^ rkByte rk n r c := by
  by_cases h : n.val < 10
  · rw [encRound_of_lt h, if_pos h, addRoundKey_entry, mixColumns_entry]
    simp only [shiftRows_entry, subBytes_entry]
  · obtain rfl : n = 10 := by omega
    rw [encRound_last, if_neg h, addRoundKey_entry, shiftRows_entry, subBytes_entry]

/-- The first state of `Cipher` is the block, loaded, with round-key slice 0 added (R115, R117, R175). -/
theorem cipherState_zero_byte (rk : Vector Word 44) (x : Vector Byte 16) (i : Fin 16) :
    (cipherState rk (loadState x) 0)[i.val % 4][i.val / 4] = x[i] ^^^ (unpackBe rk[i.val / 4])[i.val % 4] := by
  have hentry := addRoundKey_entry rk 0 (loadState x) ⟨i.val % 4, by omega⟩ ⟨i.val / 4, by omega⟩
  simp only [rkByte, Fin.getElem_fin, Fin.val_zero, Nat.mul_zero, Nat.zero_add, loadState_byte x i i.isLt] at hentry
  exact hentry

/-- Settles O14: the states are those of `cipherState`, whose rounds are known entry by entry. -/
theorem aesEncRunsTheCipher : Obligations.AesEncRunsTheCipher := by
  refine fun s => ⟨expand s.key, cipherState (expand s.key) (loadState s.din), _, exec_aesEnc s, exec_keyexp s,
    cipherState_zero_byte _ s.din, fun n row col => ?_, fun i => ?_⟩
  · exact encRound_entry ..
  · rw [← cipher_eq_cipherState]
    exact storeState_byte _ i i.isLt

/-! ### AES_ENC undoes AES_DEC -/

theorem decRound_of_pos {n : Fin 11} (h : 0 < n) (rk : Vector Word 44) (s : AesState) :
    decRound rk s n = invMixColumns (addRoundKey rk n (invSubBytes (invShiftRows s))) :=
  if_pos h

theorem decRound_zero (rk : Vector Word 44) (s : AesState) :
    decRound rk s 0 = addRoundKey rk 0 (invSubBytes (invShiftRows s)) := rfl

theorem shiftRows_subBytes_invSubBytes_invShiftRows (s : AesState) :
    shiftRows (subBytes (invSubBytes (invShiftRows s))) = s := by
  rw [subBytes_invSubBytes, shiftRows_invShiftRows]

/-- Run on what `InvCipher` answers, `Cipher` passes the states of `InvCipher` backwards: its state after round `n`, taken
through SubBytes and ShiftRows, is the state after round `n + 1` of `InvCipher`. -/
theorem shiftRows_subBytes_cipherState (rk : Vector Word 44) (x : AesState) (n : Fin 10) :
    shiftRows (subBytes (cipherState rk (invCipherState rk x 0) n.castSucc)) = invCipherState rk x n.succ := by
  induction n using Fin.induction with
  | zero =>
    have hlast : invCipherState rk x 0 = decRound rk (invCipherState rk x (Fin.succ 0)) 0 :=
      invCipherState_castSucc rk x 0
    rw [Fin.castSucc_zero, cipherState_zero, hlast, decRound_zero, addRoundKey_addRoundKey,
      shiftRows_subBytes_invSubBytes_invShiftRows]
  | succ n ih =>
    have hlt : n.castSucc.succ.val < 10 := Nat.succ_lt_succ n.isLt
    have hpos : 0 < n.succ.castSucc := Fin.succ_pos n.castSucc
    rw [← Fin.succ_castSucc, cipherState_succ, encRound_of_lt hlt, ih, Fin.succ_castSucc, invCipherState_castSucc,
      decRound_of_pos hpos, mixColumns_invMixColumns, addRoundKey_addRoundKey,
      shiftRows_subBytes_invSubBytes_invShiftRows]

/-- `Cipher` undoes `InvCipher` under the same schedule. -/
theorem cipher_invCipher (rk : Vector Word 44) (x : AesState) : cipher rk (invCipher rk x) = x :=
  calc cipher rk (invCipher rk x)
    _ = cipherState rk (invCipherState rk x 0) (Fin.last 9).succ := by
      rw [cipher_eq_cipherState, invCipher_eq_invCipherState]
      rfl
    _ = encRound rk (cipherState rk (invCipherState rk x 0) (Fin.last 9).castSucc) 10 := cipherState_succ ..
    _ = addRoundKey rk 10 (invCipherState rk x 10) := by
      rw [encRound_last, shiftRows_subBytes_cipherState]
      rfl
    _ = x := by rw [invCipherState_last, addRoundKey_addRoundKey]

/-- Settles O17: both commands use `expand` of the same key, and storing and loading between them lose nothing. -/
theorem encryptUndoesDecrypt : Obligations.EncryptUndoesDecrypt := by
  intro s t s' ht hkey hdin
  obtain rfl := Host.Outcome.next.inj ((exec_aesDec s).symm.trans ht)
  refine ⟨_, exec_aesEnc s', ?_⟩
  simp only [State.setErr_dout, State.setDout_dout] at hdin ⊢
  rw [hkey, hdin, loadState_storeState, cipher_invCipher, storeState_loadState]

end Sys2Proof.Machine
end

section
/-! PROOFS of the family 44_aes_decrypt: InvCipher round by round, and AES_DEC as the inverse of AES_ENC. -/

namespace Sys2Proof.Machine

/-! ### AES_DEC runs InvCipher -/

/-- InvMixColumns written with the product in GF(2^8) is the core's matrix on one column (R192, R193). -/
theorem invMixColumn_entry (a : Fin 4 → Byte) (r : Fin 4) : (invMixColumn a)[r] = mulColumn invMixMatrix a r := by
  simp only [mulColumn, mul_eq_gfProduct]
  fin_cases r <;> rfl

/-- An entry of the state InvMixColumns answers, from the column it replaces (R193). -/
theorem invMixColumns_entry (s : AesState) (r c : Fin 4) :
    (invMixColumns s)[r][c] = (invMixColumn fun k => s[k][c])[r] :=
  (mulColumns_entry_eq_mulColumn invMixMatrix s r c).trans (invMixColumn_entry _ r).symm

/-- The state of a round of `InvCipher` before InvMixColumns, entry by entry (R195). -/
theorem addRoundKey_invSubBytes_invShiftRows_entry (rk : Vector Word 44) (s : AesState) (n : Fin 11) (r c : Fin 4) :
    (addRoundKey rk n (invSubBytes (invShiftRows s)))[r][c] = invSbox s[r][c - r] ^^^ rkByte rk n r c := by
  rw [addRoundKey_entry, invSubBytes_entry, invShiftRows_entry]

/-- A round of `InvCipher`, entry by entry, from the column after AddRoundKey (R195). -/
theorem decRound_entry (rk : Vector Word 44) (s : AesState) (n : Fin 11) (r c : Fin 4) :
    (decRound rk s n)[r][c] =
      if 0 < n.val then (invMixColumn fun k => invSbox s[k][c - k] ^^^ rkByte rk n k c)[r]
      else invSbox s[r][c - r] ^^^ rkByte rk n r c := by
  by_cases h : 0 < n.val
  · rw [decRound_of_pos h, if_pos h, invMixColumns_entry]
    simp only [addRoundKey_invSubBytes_invShiftRows_entry]
  · obtain rfl : n = 0 := by omega
    rw [decRound_zero, if_neg h, addRoundKey_invSubBytes_invShiftRows_entry]

/-- The first state of `InvCipher` is the block, loaded, with round-key slice 10 added (R115, R117, R195). -/
theorem invCipherState_last_byte (rk : Vector Word 44) (x : Vector Byte 16) (i : Fin 16) :
    (invCipherState rk (loadState x) 10)[i.val % 4][i.val / 4] =
      x[i] ^^^ (unpackBe rk[40 + i.val / 4])[i.val % 4] := by
  have hentry := addRoundKey_entry rk 10 (loadState x) ⟨i.val % 4, by omega⟩ ⟨i.val / 4, by omega⟩
  simp only [rkByte, Fin.getElem_fin, loadState_byte x i i.isLt] at hentry
  rw [invCipherState_last]
  exact hentry

/-- Settles O15: the states are those of `invCipherState`, whose rounds are known entry by entry. -/
theorem aesDecRunsTheInverseCipher : Obligations.AesDecRunsTheInverseCipher := by
  refine fun s => ⟨expand s.key, invCipherState (expand s.key) (loadState s.din), _, exec_aesDec s, exec_keyexp s,
    invCipherState_last_byte _ s.din, fun n row col => ?_, fun i => ?_⟩
  · rw [invCipherState_castSucc]
    exact decRound_entry ..
  · rw [← invCipher_eq_invCipherState]
    exact storeState_byte _ i i.isLt

/-! ### AES_DEC undoes AES_ENC -/

/-- There are finitely many AES states, as a state is determined by its sixteen bytes. -/
theorem AesState.finite : Finite AesState :=
  Finite.of_injective (fun (s : AesState) (r c : Fin 4) => s[r][c])
    fun _ _ h => AesState.ext_entry fun r c => congrFun (congrFun h r) c

/-- `InvCipher` undoes `Cipher` under the same schedule: it is injective by `cipher_invCipher`, hence, on finitely many
states, onto, and so its left inverse is its inverse. -/
theorem invCipher_cipher (rk : Vector Word 44) (x : AesState) : invCipher rk (cipher rk x) = x := by
  have hleft : Function.LeftInverse (cipher rk) (invCipher rk) := cipher_invCipher rk
  have := AesState.finite
  exact hleft.rightInverse_of_surjective (Finite.surjective_of_injective hleft.injective) x

/-- Settles O16: both commands use `expand` of the same key, and storing and loading between them lose nothing. -/
theorem decryptUndoesEncrypt : Obligations.DecryptUndoesEncrypt := by
  intro s t s' ht hkey hdin
  obtain rfl := Host.Outcome.next.inj ((exec_aesEnc s).symm.trans ht)
  refine ⟨_, exec_aesDec s', ?_⟩
  simp only [State.setErr_dout, State.setDout_dout] at hdin ⊢
  rw [hkey, hdin, loadState_storeState, invCipher_cipher, storeState_loadState]

end Sys2Proof.Machine
end

section
/-! PROOFS of the family 45_sha256: the word functions, the commands' results, and how SHA_BLOCK, SHA_SCHED and SHA_COMP
fit together. -/

namespace Sys2Proof.Machine

/-! ### The word functions -/

/-- A rotation by fewer than 32 places is the library's (R210). -/
theorem rotr_eq_rotateRight {n : Nat} (hn : n < 32) (x : Word) : rotr n x = x.rotateRight n := by
  rw [rotr, BitVec.rotateRight_def, Nat.mod_eq_of_lt hn]

/-- `Ch` chooses each bit from `y` or `z` by the bit of `x` (R212). -/
theorem getLsbD_ch (x y z : Word) (i : Nat) :
    (ch x y z).getLsbD i = if x.getLsbD i then y.getLsbD i else z.getLsbD i := by
  simp only [ch, BitVec.getLsbD_xor, BitVec.getLsbD_and, BitVec.getLsbD_not]
  cases x.getLsbD i with
  | true => simp
  | false =>
    have hz : z.getLsbD i = true → i < 32 := BitVec.lt_of_getLsbD
    simpa using hz

/-- Each bit of `Maj` is the majority of the three bits (R212). -/
theorem getLsbD_maj (x y z : Word) (i : Nat) :
    (maj x y z).getLsbD i = decide (2 ≤ (x.getLsbD i).toNat + (y.getLsbD i).toNat + (z.getLsbD i).toNat) := by
  simp only [maj, BitVec.getLsbD_xor, BitVec.getLsbD_and]
  generalize x.getLsbD i = a, y.getLsbD i = b, z.getLsbD i = c
  revert a b c
  decide

/-- Settles O24: each mixer is its three rotations or shifts, and each rotation is the library's. -/
theorem wordFunctionsBitByBit : Obligations.WordFunctionsBitByBit := by
  refine ⟨fun n x _ hn => rotr_eq_rotateRight hn x, fun x => ?_, getLsbD_ch, getLsbD_maj⟩
  simp only [smallSig0, smallSig1, bigSig0, bigSig1, rotr_eq_rotateRight, Nat.reduceLT, and_self]

/-! ### SHA_INIT and SHA_SCHED -/

/-- Settles O25: the byte is SHA_INIT's, and `iv` is the eight words listed. -/
theorem shaInitStartsAHash : Obligations.ShaInitStartsAHash :=
  ⟨decode_encode .shaInit, exec_shaInit⟩

/-- Settles O26: the schedule is `schedule` of the block, whose first words and recurrence are laws of its loop. -/
theorem shaSchedWritesTheSchedule : Obligations.ShaSchedWritesTheSchedule :=
  fun s => ⟨schedule s.msg, exec_shaSched s, schedule_head s.msg, schedule_word s.msg⟩

/-! ### SHA_COMP, round by round -/

/-- The working variables of `compress` after `n` rounds (R215). -/
def roundVars (hin : Vector Word 8) (w : Vector Word 64) (n : Fin 65) : Vars :=
  rounds hin w n.val (Nat.le_of_lt_succ n.isLt)

/-- Before the first round the working variables are the hash state (R215). -/
theorem roundVars_zero (hin : Vector Word 8) (w : Vector Word 64) : roundVars hin w 0 = Vars.ofHash hin := rfl

/-- Round `n` takes the constant and the schedule word of its number (R215). -/
theorem roundVars_succ (hin : Vector Word 8) (w : Vector Word 64) (n : Fin 64) :
    roundVars hin w n.succ = (roundVars hin w n.castSucc).round (kConst n.val n.isLt) w[n] := rfl

/-- `compress` adds the working variables after the last round to the hash state (R216). -/
theorem compress_eq_addVars (hin : Vector Word 8) (w : Vector Word 64) :
    compress hin w = addVars hin (roundVars hin w 64) := by
  unfold compress
  rfl

/-- Settles O27: the tuples are `roundVars` of the hash state and the schedule, and the new hash state is `compress`. -/
theorem shaCompFoldsTheSchedule : Obligations.ShaCompFoldsTheSchedule := fun s hh hw =>
  ⟨roundVars s.h s.w, compress s.h s.w, exec_shaComp_ok hh hw, roundVars_zero s.h s.w, roundVars_succ s.h s.w,
    compress_eq_addVars s.h s.w⟩

/-! ### A schedule and the compression that consumes it -/

/-- After SHA_SCHED with `H_VALID` set, SHA_COMP does what SHA_BLOCK does at once (R221). -/
theorem exec_shaComp_of_shaSched {s t : State} (hh : s.status.hValid = true) (h : exec .shaSched s = .next t) :
    exec .shaComp t = exec .shaBlock s := by
  obtain rfl := Host.Outcome.next.inj ((exec_shaSched s).symm.trans h)
  rw [exec_shaBlock_ok hh]
  exact exec_shaComp_ok hh rfl

/-- Settles O29: the state between is SHA_SCHED's, and the last state is SHA_BLOCK's. -/
theorem shaBlockIsSchedThenComp : Obligations.ShaBlockIsSchedThenComp := by
  intro s hh
  have hsched := exec_shaSched s
  have hblock := exec_shaBlock_ok hh
  exact ⟨_, _, hsched, (exec_shaComp_of_shaSched hh hsched).trans hblock, hblock, rfl, rfl⟩

/-- A compression that succeeds had a hash state, and leaves it valid with its schedule consumed (R220, R221). -/
theorem ExecEffect.status_of_compression {s t : State} {i : Instr} (h : ExecEffect s i t)
    (hi : i = .shaComp ∨ i = .shaBlock) (h0 : t.status.err = 0) :
    t.status.hValid = true ∧ t.status.wValid = false := by
  cases h with
  | shaComp hh | shaBlock hh => exact ⟨hh, rfl⟩
  | compNoHash | compNoSchedule | blockNoHash => simp at h0
  | gfmul c => cases c <;> simp [gfInstr] at hi
  | _ => simp at hi

/-- Settles O30: a compression leaves `W_VALID` clear, and SHA_SCHED sets it with `H_VALID` still set. -/
theorem scheduleIsConsumedOnce : Obligations.ScheduleIsConsumedOnce := by
  intro i s t hi h h0
  obtain ⟨hh, hw⟩ := (exec_eq_next_iff.mp h).status_of_compression hi h0
  exact ⟨(ExecEffect.compNoSchedule hh hw).exec_eq, _, _, exec_shaSched t, exec_shaComp_ok hh rfl, rfl⟩

end Sys2Proof.Machine
end

section
/-! PROOFS of the family 46_host_procedures: the padding of a message, and the blocks of the file variant. -/

namespace Sys2Proof.Machine

/-! ### The length field -/

/-- Reading a word's four bytes big-endian after a prefix of value `n` shifts the prefix by 32 bits and adds the word. -/
theorem foldl_unpackBe (x : Word) (n : Nat) :
    (unpackBe x).toList.foldl (fun n (b : Byte) => 256 * n + b.toNat) n = 2 ^ 32 * n + x.toNat := by
  have hx := x.isLt
  simp only [unpackBe, Vector.toList_mk, List.foldl_cons, List.foldl_nil, BitVec.extractLsb'_toNat,
    Nat.shiftRight_eq_div_pow, Nat.reducePow, pow_zero, Nat.div_one]
  omega

@[simp] theorem length_lengthField (len : Nat) : (lengthField len).length = 8 := by
  simp [lengthField]

/-- The length field reads big-endian as the bit length of a message that R253 accepts (R251). -/
theorem foldl_lengthField {len : Nat} (h : len < 2 ^ 61) :
    (lengthField len).foldl (fun n (b : Byte) => 256 * n + b.toNat) 0 = 8 * len := by
  rw [lengthField, List.foldl_append, foldl_unpackBe, foldl_unpackBe, BitVec.toNat_ofNat, BitVec.toNat_ofNat]
  omega

/-! ### The padded message -/

theorem padZeros_lt (len : Nat) : padZeros len < 64 := Nat.mod_lt _ (by decide)

/-- The zero bytes fill the last block (R251). -/
theorem padded_length_eq (len : Nat) : len + 1 + padZeros len + 8 = 64 * ((len + 8) / 64 + 1) := by
  unfold padZeros
  omega

theorem pad_of_lt {m : List Byte} (h : m.length < 2 ^ 61) : pad m = some (m ++ padding m.length) := if_pos h

theorem pad_eq_none {m : List Byte} (h : 2 ^ 61 ≤ m.length) : pad m = none := if_neg h.not_gt

/-- Settles O50: `padZeros` zero bytes and `lengthField` follow the message and 0x80. -/
theorem paddingFillsWholeBlocks : Obligations.PaddingFillsWholeBlocks := by
  refine ⟨fun m h => ⟨padZeros m.length, lengthField m.length, ?_, length_lengthField _, foldl_lengthField h,
    padZeros_lt _, padded_length_eq _, ?_, ?_⟩, fun m => pad_eq_none⟩
  · simp [pad_of_lt h, padding]
  · omega
  · omega

/-! ### The blocks of a byte string -/

theorem blockAt_getElem (m : List Byte) (k i : Nat) (hi : i < 64) : (blockAt m k)[i] = m.getD (64 * k + i) 0 := by
  simp [blockAt]

/-- A block that lies within `m` does not see what follows. -/
theorem blockAt_append {m : List Byte} {k : Nat} (h : k < m.length / 64) (p : List Byte) :
    blockAt (m ++ p) k = blockAt m k := by
  ext1 i hi
  rw [blockAt_getElem, blockAt_getElem, List.getD_append _ _ _ _ (by omega)]

/-- Dropping `n` blocks renumbers the others. -/
theorem blockAt_drop (m : List Byte) (n k : Nat) : blockAt (m.drop (64 * n)) k = blockAt m (n + k) := by
  ext1 i hi
  simp [blockAt_getElem, List.getD_eq_getElem?_getD, Nat.mul_add, Nat.add_assoc]

/-- The blocks of a byte string are its first `n` blocks and the blocks of what follows them. -/
theorem blocks_eq_append_blocks_drop {m : List Byte} {n : Nat} (h : n ≤ m.length / 64) :
    blocks m = (List.range n).map (blockAt m) ++ blocks (m.drop (64 * n)) := by
  have hcount : m.length / 64 = n + (m.drop (64 * n)).length / 64 := by
    rw [List.length_drop]
    omega
  rw [blocks, hcount, List.range_add, List.map_append, List.map_map, blocks]
  exact congrArg _ (List.map_congr_left fun k _ => (blockAt_drop m n k).symm)

/-- The full blocks of `m` are unchanged by what is appended, and its tail goes with it (R255). -/
theorem blocks_append (m p : List Byte) :
    blocks (m ++ p) = blocks m ++ blocks (m.drop (64 * (m.length / 64)) ++ p) := by
  have hfull : (List.range (m.length / 64)).map (blockAt (m ++ p)) = blocks m :=
    List.map_congr_left fun k hk => blockAt_append (List.mem_range.mp hk) p
  have hn : m.length / 64 ≤ (m ++ p).length / 64 := by
    rw [List.length_append]
    omega
  rw [blocks_eq_append_blocks_drop hn, hfull, List.drop_append_of_le_length (Nat.mul_div_le _ _)]

/-! ### The file variant -/

/-- The file variant gives the blocks of the padded message, and refuses where the padding does (R253, R255). -/
theorem fileBlocks_eq_map_blocks_pad (m : List Byte) : fileBlocks m = (pad m).map blocks := by
  unfold fileBlocks
  split
  · next h => rw [pad_of_lt h, Option.map_some, blocks_append m]
  · next h => rw [pad_eq_none (Nat.le_of_not_lt h), Option.map_none]

theorem hashFileScript_eq_hashScript (m : List Byte) : hashFileScript m = hashScript m := by
  rw [hashFileScript, fileBlocks_eq_map_blocks_pad, Option.map_map]
  rfl

theorem hashFileScriptSplit_eq_hashScriptSplit (m : List Byte) : hashFileScriptSplit m = hashScriptSplit m := by
  rw [hashFileScriptSplit, fileBlocks_eq_map_blocks_pad, Option.map_map]
  rfl

/-- Settles O51: both scripts are built from the blocks alone, which are those of the padded message. -/
theorem fileBlocksAreThePaddedBlocks : Obligations.FileBlocksAreThePaddedBlocks := by
  refine ⟨fileBlocks_eq_map_blocks_pad,
    fun m => ⟨hashFileScript_eq_hashScript m, hashFileScriptSplit_eq_hashScriptSplit m⟩, fun m h => ?_⟩
  have hnone : fileBlocks m = none := by rw [fileBlocks_eq_map_blocks_pad, pad_eq_none h, Option.map_none]
  exact ⟨hnone, by rw [hashFileScript, hnone, Option.map_none], by rw [hashFileScriptSplit, hnone, Option.map_none]⟩

end Sys2Proof.Machine
end

section
/-! PROOFS of the family 60_exceptions: no command stops the core, and what a command that fails reports and leaves. -/

namespace Sys2Proof.Machine

/-! ### Nothing stops the core -/

/-- Every host event answers a next state (R270, R283, R310). -/
theorem exists_hostEvent_next (e : HostEvent) (s : State) : ∃ t, hostEvent e s = .next t := by
  cases e with
  | write a v =>
    obtain ⟨t, ht, -⟩ := busWrite_setHost a v s s.pending s.rdata
    exact ⟨t, ht⟩
  | read _ | reset _ | resetDuring _ _ _ => exact ⟨_, rfl⟩

/-- Settles O7: every command has an effect, and a step is idle or answers an event. -/
theorem nothingStopsTheCore : Obligations.NothingStopsTheCore := by
  refine ⟨fun i s => ?_, fun s => ?_⟩
  · obtain ⟨t, ht⟩ := exists_execEffect i s
    exact ⟨t, ht.exec_eq⟩
  · cases hp : s.pending with
    | nil => exact ⟨s, step_idle hp⟩
    | cons e es =>
      obtain ⟨t, ht⟩ := exists_hostEvent_next e ((s.setPending es).setRdata none)
      exact ⟨t, (step_event hp).trans ht⟩

/-! ### The code a command leaves in `ERR` -/

/-- The decoder's two errors by their words: GF_CONST for the nine of R139, ILLEGAL_CMD for the rest (R95, R96). -/
theorem decode_eq_error_iff {v : Byte} {e : CmdError} :
    decode v = .error e ↔
      (e = .gfConst ∧ v ∈ gfConstWords) ∨
        (e = .illegalCmd ∧ v ∉ gfConstWords ∧ v ∉ validWords.map Prod.fst) := by
  revert v
  cases e <;> decide +kernel

/-- A command's byte is one of the fourteen valid words (R94). -/
theorem encode_mem_validWords (i : Instr) : encode i ∈ validWords.map Prod.fst :=
  List.mem_map_of_mem (mem_validWords_iff.mpr rfl)

/-- A command's byte decodes, so it is none of the nine words of R139. -/
theorem encode_notMem_gfConstWords (i : Instr) : encode i ∉ gfConstWords := by
  intro hmem
  cases (decode_encode i).symm.trans (decode_gfConstWords _ hmem)

/-- The code a decoded command leaves: NO_HASH_STATE before NO_SCHEDULE (R280), and 0 on success (R34). -/
theorem ExecEffect.err_eq {s t : State} {i : Instr} (h : ExecEffect s i t) :
    t.status.err =
      if (i = .shaComp ∨ i = .shaBlock) ∧ s.status.hValid = false then 4
      else if i = .shaComp ∧ s.status.wValid = false then 3
      else 0 := by
  cases h with
  | gfmul c => cases c <;> rfl
  | shaComp hh hw | compNoSchedule hh hw => simp [hh, hw]
  | shaBlock hh | compNoHash hh | blockNoHash hh => simp [hh]
  | keyexp | aesEnc | aesDec | shaInit | shaSched => simp

/-- Settles O41: a byte that decodes leaves the code of its command, and one that does not that of its error. -/
theorem errReportsTheOutcome : Obligations.ErrReportsTheOutcome := by
  intro v s
  obtain ⟨t, ht⟩ := exists_runCommand_next v s
  refine ⟨t, (hostEvent_cmd v s).trans ht, ?_⟩
  obtain ⟨i, hi, heff⟩ | ⟨e, he, rfl⟩ := runCommand_next ht
  · obtain rfl := encode_of_decode hi
    obtain ⟨-, -, -, -, -, h70, h80⟩ := plainBytes_eq_encode
    rw [if_neg (encode_notMem_gfConstWords i), if_neg (not_not.mpr (encode_mem_validWords i))]
    simp only [h70, h80, encode_inj]
    exact heff.err_eq
  · obtain ⟨rfl, hgf⟩ | ⟨rfl, hgf, hinvalid⟩ := decode_eq_error_iff.mp he
    · rw [if_pos hgf]
      rfl
    · rw [if_neg hgf, if_pos hinvalid]
      rfl

/-! ### What a command that fails leaves unchanged -/

/-- Settles O42: an effect whose code is not 0 is a write of that code, and so is a decoder's error. -/
theorem failedCommandChangesOnlyErr : Obligations.FailedCommandChangesOnlyErr := by
  intro v s t h hne
  obtain ⟨i, -, heff⟩ | ⟨e, -, rfl⟩ := runCommand_next ((hostEvent_cmd v s).symm.trans h)
  · exact heff.eq_setErr hne
  · rfl

/-- Settles O28: the effects of the two commands that fail. -/
theorem shaPreconditionsInOrder : Obligations.ShaPreconditionsInOrder :=
  ⟨fun _ hh => ⟨(ExecEffect.compNoHash hh).exec_eq, (ExecEffect.blockNoHash hh).exec_eq⟩,
    fun _ hh hw => (ExecEffect.compNoSchedule hh hw).exec_eq⟩

end Sys2Proof.Machine
end

section
/-! PROOFS of the family 70_reset_and_hazards: the units of the core are independent, and what a reset leaves. -/

namespace Sys2Proof.Machine

/-! ### What each unit writes -/

theorem not_isAes_gfInstr (c : GfConst) : ¬ isAes (gfInstr c) := by
  cases c <;> decide

theorem not_isSha_gfInstr (c : GfConst) : ¬ isSha (gfInstr c) := by
  cases c <;> decide

/-- An AES command writes `RK`, `DOUT`, `ERR` and `RK_VALID` at most, and KEYEXP not `DOUT` (R309). -/
theorem ExecEffect.aes_frame {s t : State} {i : Instr} (h : ExecEffect s i t) (hi : isAes i) :
    t = { s with
      rk := t.rk, dout := t.dout, status := { s.status with err := t.status.err, rkValid := t.status.rkValid } } ∧
    (i = .keyexp → t.dout = s.dout) := by
  cases h with
  | keyexp => exact ⟨rfl, fun _ => rfl⟩
  | aesEnc | aesDec => exact ⟨rfl, nofun⟩
  | gfmul c => exact absurd hi (not_isAes_gfInstr c)
  | _ => exact absurd hi (by decide)

/-- A SHA command writes `W`, `H`, `ERR`, `W_VALID` and `H_VALID` at most (R309). -/
theorem ExecEffect.sha_frame {s t : State} {i : Instr} (h : ExecEffect s i t) (hi : isSha i) :
    t = { s with w := t.w, h := t.h, status := { t.status with rkValid := s.status.rkValid } } := by
  cases h with
  | gfmul c => exact absurd hi (not_isSha_gfInstr c)
  | keyexp | aesEnc | aesDec => exact absurd hi (by decide)
  | _ => rfl

/-- A GFMUL command writes `GF_OUT` and `ERR` at most (R309). -/
theorem ExecEffect.gf_frame {s t : State} {i : Instr} (h : ExecEffect s i t) (hi : isGf i) :
    t = { s with gfOut := t.gfOut, status := { s.status with err := t.status.err } } := by
  cases h with
  | gfmul c => rfl
  | _ => exact absurd hi (by decide)

/-! ### An AES or GF command before a SHA command -/

/-- `s` with what the AES and GF commands may write taken from `r`: `RK`, `DOUT`, `GF_OUT`, `RK_VALID` and `ERR`
(R309). -/
def State.withAesGf (r s : State) : State :=
  { s with
    rk := r.rk, dout := r.dout, gfOut := r.gfOut,
    status := { s.status with err := r.status.err, rkValid := r.status.rkValid } }

/-- An AES or GF command leaves everything else as it was. -/
theorem ExecEffect.eq_withAesGf {s t : State} {i : Instr} (h : ExecEffect s i t) (hi : isAes i ∨ isGf i) :
    t = t.withAesGf s := by
  obtain ha | hg := hi
  · rw [(h.aes_frame ha).1]
    rfl
  · rw [h.gf_frame hg]
    rfl

/-- A SHA command neither reads what the AES and GF commands write, nor writes any of it but `ERR`, which it always
writes: it has the same effect before and after such a write. -/
theorem ExecEffect.withAesGf {s u : State} {j : Instr} (h : ExecEffect s j u) (hj : isSha j) (r : State) :
    ExecEffect (r.withAesGf s) j ((r.withAesGf u).setErr u.status.err) := by
  cases h with
  | shaInit => exact .shaInit
  | shaSched => exact .shaSched
  | shaComp hh hw => exact .shaComp hh hw
  | shaBlock hh => exact .shaBlock hh
  | compNoHash hh => exact .compNoHash hh
  | compNoSchedule hh hw => exact .compNoSchedule hh hw
  | blockNoHash hh => exact .blockNoHash hh
  | gfmul c => exact absurd hj (not_isSha_gfInstr c)
  | keyexp | aesEnc | aesDec => exact absurd hj (by decide)

/-- After an AES or GF command, a SHA command answers the state it would have answered, but for what that command
wrote. -/
theorem exec_sha_after_aesGf {i j : Instr} {s t u : State} (hi : isAes i ∨ isGf i) (hj : isSha j)
    (ht : ExecEffect s i t) (hu : ExecEffect s j u) :
    exec j t = .next ((t.withAesGf u).setErr u.status.err) := by
  have heff := hu.withAesGf hj t
  rw [← ht.eq_withAesGf hi] at heff
  exact heff.exec_eq

/-- Settles O38: the frame of each unit, and SHA commands commute with what the other units write. -/
theorem unitsAreIndependent : Obligations.UnitsAreIndependent := by
  refine ⟨fun _ _ _ hi h => (exec_eq_next_iff.mp h).aes_frame hi,
    fun _ _ _ hi h => (exec_eq_next_iff.mp h).sha_frame hi,
    fun _ _ _ hi h => (exec_eq_next_iff.mp h).gf_frame hi, fun i j s t u v hi hj ht hu hv => ?_⟩
  have hafter := exec_sha_after_aesGf hi hj (exec_eq_next_iff.mp ht) (exec_eq_next_iff.mp hu)
  obtain rfl := Host.Outcome.next.inj (hv.symm.trans hafter)
  exact ⟨rfl, rfl, rfl, rfl, rfl⟩

/-! ### Reset -/

/-- A reset, also one that cuts a write short, leaves the reset state with its draw (R301, R302). -/
theorem step_reset {s : State} {e : HostEvent} {es : List HostEvent} {d : Draw} (hp : s.pending = e :: es)
    (he : e = .reset d ∨ ∃ a v, e = .resetDuring a v d) : step s = .next (State.resetWith d es) := by
  rw [step_event hp]
  obtain rfl | ⟨a, v, rfl⟩ := he <;> rfl

/-- The status byte after a reset is 0x00 (R301). -/
theorem busRead_status_resetWith (d : Draw) (es : List HostEvent) : busRead (State.resetWith d es) 0x039 = 0x00 := by
  rw [busRead_status, State.resetWith_status]
  decide

/-- Settles O45: the state is `State.resetWith` of the draw, whatever the reset cuts short. -/
theorem resetLeavesTheResetState : Obligations.ResetLeavesTheResetState :=
  fun _ _ es d hp he => ⟨State.resetWith d es, step_reset hp he, rfl, busRead_status_resetWith d es,
    rfl, rfl, rfl, rfl, rfl, rfl, rfl, rfl, rfl, rfl, rfl⟩

theorem unpackBe_zero : unpackBe 0 = Vector.replicate 4 0 := by
  decide

/-- Every byte of a view on words of zeros is zero. -/
theorem viewByte_replicate_zero {n : Nat} (i : Nat) (hi : i < 4 * n) : viewByte (Vector.replicate n 0) i hi = 0x00 := by
  simp only [viewByte, Vector.getElem_replicate, unpackBe_zero]

/-- Every register and view of `State.reset` holds zeros (log 3). -/
theorem Region.byte_reset (r : Region) : r.byte State.reset = 0x00 := by
  cases r with
  | key i | din i | dout i | msg i => exact Vector.getElem_replicate i.isLt
  | hview i | rkview i | wview i => exact viewByte_replicate_zero i.val (by omega)
  | status => decide
  | gfIn | gfOut | cmd | reserved => rfl

/-- Settles O46: `State.reset` is the reset state of the draw of zeros, so every register holds zeros. -/
theorem resetIsTheZeroDraw : Obligations.ResetIsTheZeroDraw :=
  ⟨rfl, rfl, rfl, rfl, rfl, rfl, rfl, rfl, rfl, rfl, rfl, rfl,
    fun a => (busRead_eq_byte State.reset a).trans (Region.byte_reset (region a)), rfl⟩

/-- Settles O47: no valid bit is set and the code is 0, for every draw. -/
theorem invHoldsAtReset : Obligations.InvHoldsAtReset := CoreInv.resetWith

end Sys2Proof.Machine
end
